-- ==== Sys2Proof/Word.lean ====
section
/-! DEFINITION. The word types of the LIN protocol core: bytes, register addresses, identifiers and the 4-bit counts
(spec 00_scope.md R8, 10_state.md R21, R27, R28). -/

namespace Sys2Proof

/-- A byte: every register, every data byte, the checksum and the PID are 8 bits wide (R8, R21). -/
abbrev Byte := BitVec 8

/-- A host register address: 5 bits, 0x00 to 0x1F, so every address names a location (R46, R51). -/
abbrev Addr := BitVec 5

/-- A frame identifier: 6 bits, 0 to 63 (R8). -/
abbrev Ident := BitVec 6

/-- DATA_COUNT and FRAME_LEN: 4 bits (R27, R28). -/
abbrev Nibble := BitVec 4

end Sys2Proof
end

