-- ==== Sys2Proof/Machine/Ports.lean ====
section
/-! DEFINITION. What crosses the core's two ports, and the agents' events: the register names of the host register
space (10_state.md R21), the Transport's requests and answers (20_memory.md R55, 43_commands.md R112), the lines of a
host program (30_encoding.md R78), and one event per row of the step table (43_commands.md R118). -/

namespace Sys2Proof.Machine

/-- The registers of the host register space, by name; `reserved` is every other address (R21, R34). -/
inductive Reg where
  | cmd | status | result | frameId | frameCtl | frameLen | pidView | cksumView | hdrPid | frameCksum
  | data (i : Fin 8)
  | reserved
  deriving DecidableEq, Repr

/-- How the host may access a register (the access column of R21). -/
inductive Access where
  | writeOnly | readOnly | readWrite | noAccess
  deriving DecidableEq, Repr

/-- The tag of a Transport write: it tells the Transport when a header begins (R55). -/
inductive TxKind where
  | header | response
  deriving DecidableEq, Repr

/-- A Transport request: `WR(kind, s)` or `RD(n)` (R38, R55). -/
inductive Request where
  | write (kind : TxKind) (s : List Byte)
  | read (n : Nat)
  deriving DecidableEq, Repr

/-- What the Transport answers: `Ok`, `Bytes(r)` or `IOError` (R12, R112). -/
inductive Answer where
  | ok
  | bytes (r : List Byte)
  | ioError
  deriving DecidableEq, Repr

/-- An answer as the engine takes it for a write request: `Result<(), IOError>` (R112). -/
inductive WriteResult where
  | ok | ioError
  deriving DecidableEq, Repr

/-- An answer as the engine takes it for a read request: `Result<bytes, IOError>` (R112, R113). -/
inductive ReadResult where
  | bytes (r : List Byte)
  | ioError
  deriving DecidableEq, Repr

/-- One line of a host program: `WR`, `RD`, `POLL` (R78). -/
inductive HostLine where
  | wr (a : Addr) (v : Byte)
  | rd (a : Addr)
  | poll (a : Addr) (mask val : Byte)
  deriving DecidableEq, Repr

/-- One step of one agent (R118). A free host access (`hostRead`, `hostWrite`), the next line of the host's program
(`hostLine`), the engine's turn, a Transport answer, the environment's deadline and its reset. -/
inductive Event where
  | hostRead (a : Addr)
  | hostWrite (a : Addr) (v : Byte)
  | hostLine
  | engine
  | answer (a : Answer)
  | deadline
  | reset
  deriving DecidableEq, Repr, Inhabited

end Sys2Proof.Machine
end

