-- ==== Sys2Proof/Syntax.lean ====
section
/-! DEFINITION. The commands of the core: one constructor per row of spec/opcode_table.json (30_encoding.md R63). -/

namespace Sys2Proof

/-- A command the host writes to CMD. A command has no operand fields: its operands are the frame registers as they
stand when the engine step that uses them runs (R62). -/
inductive Instr where
  /-- 0x00, both roles (R109). -/
  | nop
  /-- 0x01, MASTER: one master frame exchange (R119). -/
  | send
  /-- 0x02, SLAVE: wait for a header (R131). -/
  | wait
  /-- 0x03, SLAVE: finish the slave exchange (R141). -/
  | complete
  /-- 0x04, SLAVE: cancel a wait (R116). -/
  | cancel
  deriving DecidableEq, Repr

end Sys2Proof
end

