-- ==== Sys2Proof/WellFormed.lean ====
section
/-! DEFINITION. Which commands and which Transport requests are well formed. A command has no operand (30_encoding.md
R62), so every command is; a request has the bounds of 10_state.md R38. -/

namespace Sys2Proof

/-- Every command is well formed: there is no operand field to be out of range (R62, R80). -/
def Instr.wellFormed : Instr → Bool
  | .nop => true
  | .send => true
  | .wait => true
  | .complete => true
  | .cancel => true

/-- The bounds R38 gives a request: a write of 1 to 9 bytes, a read of 1 to 9 bytes. -/
def Machine.Request.wellFormed : Machine.Request → Bool
  | .write _ s => decide (1 ≤ s.length) && decide (s.length ≤ 9)
  | .read n => decide (1 ≤ n) && decide (n ≤ 9)

end Sys2Proof
end

