-- ==== Sys2Proof/Decode.lean ====
section
/-! DEFINITION. The command byte: decoder and encoder (30_encoding.md R62 to R64, R80; spec/opcode_table.json). -/

namespace Sys2Proof

/-- Why the decoder refuses. -/
inductive DecodeError where
  /-- No byte was given. -/
  | noByte
  /-- A reserved CMD byte, 0x05 to 0xFF (R64). The host write is refused with ILLEGAL_CMD. -/
  | reservedByte (c : Byte)
  deriving DecidableEq, Repr

/-- R62, R63: all 8 bits of the byte are compared; every byte outside the table is reserved (R64). -/
def decodeByte (c : Byte) : Except DecodeError Instr :=
  if c = 0x00#8 then .ok .nop
  else if c = 0x01#8 then .ok .send
  else if c = 0x02#8 then .ok .wait
  else if c = 0x03#8 then .ok .complete
  else if c = 0x04#8 then .ok .cancel
  else .error (.reservedByte c)

/-- The first command of a sequence of bytes, and the bytes after it: every command is one byte (R61, R80). -/
def decode : List Byte → Except DecodeError (Instr × List Byte)
  | [] => .error .noByte
  | c :: rest =>
    match decodeByte c with
    | .ok i => .ok (i, rest)
    | .error e => .error e

/-- The commands of a whole sequence of bytes; it refuses at the first byte that is no command. -/
def decodeAll : List Byte → Except DecodeError (List Instr)
  | [] => .ok []
  | c :: rest =>
    match decodeByte c, decodeAll rest with
    | .ok i, .ok is => .ok (i :: is)
    | .error e, _ => .error e
    | .ok _, .error e => .error e

/-- The command byte of a command (the CMD byte column of R63). -/
def encodeByte : Instr → Byte
  | .nop => 0x00#8
  | .send => 0x01#8
  | .wait => 0x02#8
  | .complete => 0x03#8
  | .cancel => 0x04#8

/-- The bytes of a command: one (R61). -/
def encode (i : Instr) : List Byte := [encodeByte i]

/-- The command the decoder reads from a row of the opcode table: a command is one byte, bits 7 to 0 of `w`. -/
def decodeTableWord (_nbits w : Nat) : Option Instr :=
  match decodeByte (BitVec.ofNat 8 w) with
  | .ok i => some i
  | .error _ => none

end Sys2Proof
end

