-- ==== Sys2Proof/Config.lean ====
section
/-! DEFINITION. The implementation parameters of the core (00_scope.md R8, 10_state.md R40) and the one free value of
the model: which event comes next when no scheduled event is left. -/

namespace Sys2Proof

/-- `NODE_ROLE` (R8, 92_eei_decisions.md D27). -/
inductive Role where
  | master | slave
  deriving DecidableEq, Repr

/-- `ENH_ID_FORM`: the identifier byte of the Enhanced checksum (R8, R91, D17). -/
inductive EnhIdForm where
  | rawId | pid
  deriving DecidableEq, Repr

/-- The parameters of one model instance (R8): fixed for its life, written by no step (R40). -/
structure Config where
  role : Role
  enhIdForm : EnhIdForm := .rawId
  masterWritesSync : Bool := false
  deriving DecidableEq, Repr

/-- FREE VALUE (notes/assumptions/2.md). The event of the n-th step that finds no scheduled event: which agent moves and
what it brings. The spec fixes no order between the agents and lets the host, the Transport and the environment do what
they like (R7, R39, R118); nothing constrains this constant. -/
opaque Config.freeEvent : Nat → Machine.Event

end Sys2Proof
end

