-- ==== Sys2Proof/Machine/State.lean ====
section
/-! DEFINITION. The state of the machine: the core's host-visible registers (10_state.md R21 to R33), its internal
sequencing state (R36 to R38), the parameters of the instance (R40), and the outside world the step reads (R7). -/

namespace Sys2Proof.Machine

/-- The exchange state STATE (STATUS[2:0], R23, R65). -/
inductive ExState where
  | idle | headerSent | awaitResponse | awaitHeader | responsePending | complete | error
  deriving DecidableEq, Repr

/-- REJ_CAUSE (STATUS[5:4], R68). -/
inductive RejCause where
  | none | illegalCmd | badState | frameLocked
  deriving DecidableEq, Repr

/-- OUTCOME (RESULT[2:0], R67). -/
inductive ExOutcome where
  | none | completed | headerReceived | silent | cancelled | failed
  deriving DecidableEq, Repr

/-- ERR_CODE (RESULT[5:3], R66). `protocolStateError` is a code of the table that is never written (R155). -/
inductive ErrCode where
  | none | invalidIdentifier | payloadTooLarge | checksumMismatch | transportError | timeout
  | protocolStateError | frameIncoherent
  deriving DecidableEq, Repr

/-- PEND: an accepted command whose first engine step has not yet run (R36). -/
inductive Pend where
  | none | send | wait | complete
  deriving DecidableEq, Repr

/-- VARIANT (FRAME_CTL[5], R69). -/
inductive Variant where
  | classic | enhanced
  deriving DecidableEq, Repr

/-- The whole machine. The fields up to `txn` are the core's (R18); the last four are the model's own: the outside world,
which the spec's step table lets move at any time (R7, R118; notes/assumptions/1.md, 2.md, 3.md). -/
structure State where
  /-- The parameters NODE_ROLE, ENH_ID_FORM, MASTER_WRITES_SYNC of this instance (R8, R40). No step writes them. -/
  cfg : Config
  /-- STATUS[2:0] STATE (R23). -/
  exState : ExState
  /-- STATUS[5:4] REJ_CAUSE (R23, R68). -/
  rejCause : RejCause
  /-- RESULT[2:0] OUTCOME (R24, R67). -/
  outcome : ExOutcome
  /-- RESULT[5:3] ERR_CODE (R24, R66). -/
  errCode : ErrCode
  /-- FRAME_ID (R26). -/
  frameId : Byte
  /-- FRAME_CTL[3:0] DATA_COUNT (R27). -/
  dataCount : Nibble
  /-- FRAME_CTL[4] LEN_VALID (R27). -/
  lenValid : Bool
  /-- FRAME_CTL[5] VARIANT (R27, R69). -/
  variant : Variant
  /-- FRAME_LEN[3:0] (R28). -/
  frameLen : Nibble
  /-- DATA0 to DATA7 (R29). -/
  data : Vector Byte 8
  /-- HDR_PID (R32). -/
  hdrPid : Byte
  /-- FRAME_CKSUM (R33). -/
  frameCksum : Byte
  /-- PEND (R36). -/
  pend : Pend
  /-- SYNC_SEEN (R37). -/
  syncSeen : Bool
  /-- TXN: the one outstanding Transport request, or none (R38). -/
  txn : Option Request
  /-- The model's own: the scheduled events, the next one first. -/
  inputs : List Event
  /-- The model's own: the lines of the host's program that it has not yet done (R78). -/
  hostProg : List HostLine
  /-- The model's own: what the host's last read returned; `none` before the first read. -/
  readOut : Option Byte
  /-- The model's own: how many free events have been drawn (`Config.freeEvent`). -/
  drawn : Nat
  deriving DecidableEq, Repr

/-- Why the machine stops with a fault. -/
inductive Fault where
  /-- A Transport answer arrived in a pair of STATE and request that R112 does not list ("The pairs listed are the only
  ones a reachable state has"). Raised by `transportAnswer` only; safe: no state that meets R42 raises it. -/
  | unlistedAnswer
  deriving DecidableEq, Repr

/-- Why the machine refuses to run an instruction. A refusal OF THE CORE (REJ_CAUSE, R107) is no refusal of the
model: it is a next state. -/
inductive Refusal where
  /-- The instruction has no meaning in the model yet; raised by `exec`'s refused arms only, of which there is none. Safe. -/
  | notModelled (mnemonic : String)
  deriving DecidableEq, Repr

/-- The state after reset of an instance with parameters `c` (R43, R166, R167): every register as R43 gives it; nothing
scheduled, no host program, no read made, no free event drawn. -/
def State.resetOf (c : Config) : State where
  cfg := c
  exState := .idle
  rejCause := .none
  outcome := .none
  errCode := .none
  frameId := 0
  dataCount := 0
  lenValid := false
  variant := .classic
  frameLen := 0
  data := Vector.replicate 8 0
  hdrPid := 0
  frameCksum := 0
  pend := .none
  syncSeen := false
  txn := none
  inputs := []
  hostProg := []
  readOut := none
  drawn := 0

/-- The machine right after reset. The parameters are the spec's defaults; NODE_ROLE has none, and MASTER stands here
(DESIGN CHOICE, notes/assumptions/4.md). Statements about reset are made for `State.resetOf c`, every c. -/
def State.reset : State := State.resetOf { role := .master }

end Sys2Proof.Machine
end

