-- ==== Sys2Proof/Machine/Flags.lean ====
section
/-! DEFINITION. The status fields: the codes of STATE, REJ_CAUSE, OUTCOME, ERR_CODE and VARIANT (30_encoding.md R65 to
R69), BUSY (10_state.md R41), and the bytes STATUS, RESULT and FRAME_CTL assembled from their fields (R23, R24, R27).
The core has no arithmetic flags (R20). -/

namespace Sys2Proof.Machine

/-- STATE codes (R65); code 7 is never produced. -/
def stateCode : ExState → BitVec 3
  | .idle => 0
  | .headerSent => 1
  | .awaitResponse => 2
  | .awaitHeader => 3
  | .responsePending => 4
  | .complete => 5
  | .error => 6

/-- ERR_CODE codes (R66). -/
def errCodeBits : ErrCode → BitVec 3
  | .none => 0
  | .invalidIdentifier => 1
  | .payloadTooLarge => 2
  | .checksumMismatch => 3
  | .transportError => 4
  | .timeout => 5
  | .protocolStateError => 6
  | .frameIncoherent => 7

/-- OUTCOME codes (R67); codes 6 and 7 are never produced. -/
def outcomeCode : ExOutcome → BitVec 3
  | .none => 0
  | .completed => 1
  | .headerReceived => 2
  | .silent => 3
  | .cancelled => 4
  | .failed => 5

/-- REJ_CAUSE codes (R68). -/
def rejCauseCode : RejCause → BitVec 2
  | .none => 0
  | .illegalCmd => 1
  | .badState => 2
  | .frameLocked => 3

/-- VARIANT codes (R69). -/
def variantBit : Variant → BitVec 1
  | .classic => 0
  | .enhanced => 1

/-- The variant a VARIANT bit selects (R69). -/
def variantOf (b : Bool) : Variant := if b then .enhanced else .classic

/-- Whether STATE by itself makes the core busy (R41). -/
def busyState : ExState → Bool
  | .headerSent => true
  | .awaitResponse => true
  | .awaitHeader => true
  | .idle => false
  | .responsePending => false
  | .complete => false
  | .error => false

/-- BUSY: computed, not stored (R41). -/
def busy (s : State) : Bool :=
  s.pend != .none || s.txn.isSome || busyState s.exState

/-- STATUS as the host reads it: reserved [7:6], REJ_CAUSE [5:4], BUSY [3], STATE [2:0] (R23, R35). -/
def statusByte (s : State) : Byte :=
  0#2 ++ rejCauseCode s.rejCause ++ BitVec.ofBool (busy s) ++ stateCode s.exState

/-- RESULT as the host reads it: reserved [7:6], ERR_CODE [5:3], OUTCOME [2:0] (R24, R35). -/
def resultByte (s : State) : Byte :=
  0#2 ++ errCodeBits s.errCode ++ outcomeCode s.outcome

/-- FRAME_CTL as the host reads it: reserved [7:6], VARIANT [5], LEN_VALID [4], DATA_COUNT [3:0] (R27, R35, R80). -/
def frameCtlByte (s : State) : Byte :=
  0#2 ++ variantBit s.variant ++ BitVec.ofBool s.lenValid ++ s.dataCount

end Sys2Proof.Machine
end

