-- ==== Sys2Proof/Machine/Parity.lean ====
section
/-! DEFINITION. The parity calculator and the header builder (40_parity.md R81 to R86; 30_encoding.md R70, R74). -/

namespace Sys2Proof.Machine

/-- P0 = ID0 ^ ID1 ^ ID2 ^ ID4 (R81). -/
def parityP0 (id : Ident) : Bool :=
  ((id.getLsbD 0 ^^ id.getLsbD 1) ^^ id.getLsbD 2) ^^ id.getLsbD 4

/-- P1 = ~(ID1 ^ ID3 ^ ID4 ^ ID5) (R81). -/
def parityP1 (id : Ident) : Bool :=
  !(((id.getLsbD 1 ^^ id.getLsbD 3) ^^ id.getLsbD 4) ^^ id.getLsbD 5)

/-- `pid(id)`: P1 in bit 7, P0 in bit 6, the identifier in bits 5 to 0 (R70, R82). -/
def pid (id : Ident) : Byte :=
  BitVec.ofBool (parityP1 id) ++ BitVec.ofBool (parityP0 id) ++ id

/-- `id_of(b) = b[5:0]` (R86). -/
def idOf (b : Byte) : Ident := b.setWidth 6

/-- `pid_ok(b)`: b is the PID of the identifier it carries (R84). -/
def pidOk (b : Byte) : Bool := b == pid (idOf b)

/-- The sync byte (R72). -/
def syncByte : Byte := 0x55#8

/-- `header_bytes(id)`: the bytes of the master's header write (R74, R83). -/
def headerBytes (c : Config) (id : Ident) : List Byte :=
  if c.masterWritesSync then [syncByte, pid id] else [pid id]

end Sys2Proof.Machine
end

