-- ==== Sys2Proof/Machine/Checksum.lean ====
section
/-! DEFINITION. The checksum engine (41_checksum.md R88 to R93, R96). -/

namespace Sys2Proof.Machine

/-- One byte added to the accumulator with the end-around carry; the test is `> 255` (R88). -/
def accStep (acc : Nat) (b : Byte) : Nat :=
  if acc + b.toNat > 255 then acc + b.toNat - 255 else acc + b.toNat

/-- `acc_sum(s)` (R88). -/
def accSum (s : List Byte) : Nat := s.foldl accStep 0

/-- `checksum(s) = 255 - acc_sum(s)` (R89). -/
def checksum (s : List Byte) : Byte := BitVec.ofNat 8 (255 - accSum s)

/-- `classic_input(id, d) = d` (R90). -/
def classicInput (_id : Ident) (d : List Byte) : List Byte := d

/-- `id_byte(id)`: the identifier zero-extended, or the PID byte (R91, parameter ENH_ID_FORM). -/
def idByte (c : Config) (id : Ident) : Byte :=
  match c.enhIdForm with
  | .rawId => id.setWidth 8
  | .pid => pid id

/-- `enhanced_input(id, d) = [id_byte(id)] ++ d` (R91). -/
def enhancedInput (c : Config) (id : Ident) (d : List Byte) : List Byte := idByte c id :: d

/-- `eff_variant(id, v)`: identifiers 60 to 63 always use Classic (R92). -/
def effVariant (id : Ident) (v : Variant) : Variant :=
  if 60 ≤ id.toNat then .classic else v

/-- `frame_cksum(id, v, d)` (R93). -/
def frameCksum (c : Config) (id : Ident) (v : Variant) (d : List Byte) : Byte :=
  match effVariant id v with
  | .classic => checksum (classicInput id d)
  | .enhanced => checksum (enhancedInput c id d)

/-- `cksum_match(id, v, r)`: the last byte of r is the checksum of the bytes before it, by byte equality (R96). -/
def cksumMatch (c : Config) (id : Ident) (v : Variant) (r : List Byte) : Bool :=
  match r.getLast? with
  | none => false
  | some k => k == frameCksum c id v r.dropLast

end Sys2Proof.Machine
end

