-- ==== Sys2Proof/Machine/Operands.lean ====
section
/-! DEFINITION. The operands of the commands, read from the frame registers as they stand at the step that uses them
(30_encoding.md R62): the identifiers, the payload, the bytes of a header and of a response (R74, R75), and the payload
scatter of a receive (44_master.md R127). -/

namespace Sys2Proof.Machine

/-- The identifier a SEND uses: `reg[FRAME_ID][5:0]` (44_master.md). -/
def frameIdent (s : State) : Ident := idOf s.frameId

/-- HDR_ID: the identifier of the header a wait received, `reg[HDR_PID][5:0]`; the one COMPLETE uses (R32, R147). -/
def hdrIdent (s : State) : Ident := idOf s.hdrPid

/-- The payload `[DATA0, …, DATA(n-1)]`, n = min(DATA_COUNT, 8) (R29, R75, R95). -/
def payload (s : State) : List Byte := s.data.toList.take s.dataCount.toNat

/-- The bytes of the master's header write (R74). -/
def headerRequest (s : State) : Request := .write .header (headerBytes s.cfg (frameIdent s))

/-- The bytes of a response with identifier `id`: the payload, then its checksum (R75). -/
def responseBytes (id : Ident) (s : State) : List Byte :=
  payload s ++ [frameCksum s.cfg id s.variant (payload s)]

/-- The response write for the identifier `id` (R75). -/
def responseRequest (id : Ident) (s : State) : Request := .write .response (responseBytes id s)

/-- The response read: L data bytes and one checksum byte (R76). -/
def responseRead (len : Nibble) : Request := .read (len.toNat + 1)

/-- Write the bytes of a list into consecutive DATA registers, the first into DATA(i); bytes beyond DATA7 are dropped. -/
def scatterFrom (i : Nat) : List Byte → Vector Byte 8 → Vector Byte 8
  | [], d => d
  | b :: bs, d => scatterFrom (i + 1) bs (d.setIfInBounds i b)

/-- `for i in 0 .. L-1: reg[DATA(i)] <- r[i]`, the payload scatter (R127, R146). -/
def scatter (bytes : List Byte) (d : Vector Byte 8) : Vector Byte 8 := scatterFrom 0 bytes d

end Sys2Proof.Machine
end

