-- ==== Sys2Proof/Machine/Validation.lean ====
section
/-! DEFINITION. Frame model validation and the exchange direction (42_frame_validation.md R98 to R103). A check gives
`none` for `Ok` and the code for `Err(code)`. -/

namespace Sys2Proof.Machine

/-- `check_id` (R98). -/
def checkId (s : State) : Option ErrCode :=
  if s.frameId.toNat > 63 then some .invalidIdentifier else none

/-- `check_data` (R99). -/
def checkData (s : State) : Option ErrCode :=
  if s.dataCount.toNat > 8 then some .payloadTooLarge else none

/-- `check_length` (R100). -/
def checkLength (s : State) : Option ErrCode :=
  if s.lenValid = true ∧ s.frameLen.toNat > 8 then some .payloadTooLarge else none

/-- `check_coherence` (R101). -/
def checkCoherence (s : State) : Option ErrCode :=
  if s.lenValid = true ∧ s.frameLen.toNat = 0 then some .frameIncoherent
  else if s.dataCount.toNat ≥ 1 ∧ s.lenValid = true ∧ s.frameLen ≠ s.dataCount then some .frameIncoherent
  else none

/-- The first failing check of a list gives the result (R102). -/
def firstFailure : List (Option ErrCode) → Option ErrCode
  | [] => none
  | none :: rest => firstFailure rest
  | some e :: _ => some e

/-- `validate_master` (R102). -/
def validateMaster (s : State) : Option ErrCode :=
  firstFailure [checkId s, checkData s, checkLength s, checkCoherence s]

/-- `validate_slave`: no identifier check (R102, R147). -/
def validateSlave (s : State) : Option ErrCode :=
  firstFailure [checkData s, checkLength s, checkCoherence s]

/-- The exchange direction of a validated frame (R103). -/
inductive Direction where
  | transmit
  | receive (len : Nibble)
  | silent
  deriving DecidableEq, Repr

/-- `direction`: data first, then a set length, else silent (R103). -/
def direction (s : State) : Direction :=
  if s.dataCount.toNat ≥ 1 then .transmit
  else if s.lenValid = true then .receive s.frameLen
  else .silent

end Sys2Proof.Machine
end

