-- ==== Sys2Proof/Machine/Ops.lean ====
section
/-! DEFINITION. The operations the meanings share: the register map and its reads and writes (10_state.md R21 to R35,
20_memory.md R49, R50), refusing an access (43_commands.md R107), accepting a command (R106, R108), taking an exchange
failure (60_exceptions.md R153, the core's only exception entry) and returning from it (R115), completing an exchange,
and ending a wait (R116, R140). -/

namespace Sys2Proof.Machine

/-! ## The register map -/

/-- The register at an address (R21, R34). -/
def regAt (a : Addr) : Reg :=
  if a.toNat = 0x00 then .cmd
  else if a.toNat = 0x01 then .status
  else if a.toNat = 0x02 then .result
  else if a.toNat = 0x03 then .frameId
  else if a.toNat = 0x04 then .frameCtl
  else if a.toNat = 0x05 then .frameLen
  else if a.toNat = 0x06 then .pidView
  else if a.toNat = 0x07 then .cksumView
  else if a.toNat = 0x08 then .hdrPid
  else if a.toNat = 0x09 then .frameCksum
  else if a.toNat / 8 = 2 then .data (Fin.ofNat 8 a.toNat)
  else .reserved

/-- The address of a named register; `reserved` is no single address (R21). -/
def addrOf : Reg → Option Addr
  | .cmd => some 0x00
  | .status => some 0x01
  | .result => some 0x02
  | .frameId => some 0x03
  | .frameCtl => some 0x04
  | .frameLen => some 0x05
  | .pidView => some 0x06
  | .cksumView => some 0x07
  | .hdrPid => some 0x08
  | .frameCksum => some 0x09
  | .data i => some (BitVec.ofNat 5 (0x10 + i.val))
  | .reserved => none

/-- The access column of the register map (R21, R34). -/
def accessOf : Reg → Access
  | .cmd => .writeOnly
  | .status => .readOnly
  | .result => .readOnly
  | .frameId => .readWrite
  | .frameCtl => .readWrite
  | .frameLen => .readWrite
  | .pidView => .readOnly
  | .cksumView => .readOnly
  | .hdrPid => .readOnly
  | .frameCksum => .readOnly
  | .data _ => .readWrite
  | .reserved => .noAccess

/-- The address of CMD (R22). -/
def addrCmd : Addr := 0x00#5

/-- PID_VIEW: computed at the read from FRAME_ID (R30, R85). -/
def pidView (s : State) : Byte := pid (frameIdent s)

/-- CKSUM_VIEW: the checksum the frame registers would carry, computed at the read (R31, R95). -/
def cksumView (s : State) : Byte := frameCksum s.cfg (frameIdent s) s.variant (payload s)

/-- The value a register reads as (R22 to R35, R49): CMD and reserved addresses read 0. -/
def readReg (r : Reg) (s : State) : Byte :=
  match r with
  | .cmd => 0
  | .status => statusByte s
  | .result => resultByte s
  | .frameId => s.frameId
  | .frameCtl => frameCtlByte s
  | .frameLen => 0#4 ++ s.frameLen
  | .pidView => pidView s
  | .cksumView => cksumView s
  | .hdrPid => s.hdrPid
  | .frameCksum => s.frameCksum
  | .data i => s.data[i]
  | .reserved => 0

/-- Store a byte in a frame register; reserved bits are discarded (R26 to R29, R35, R110). The other registers are not
written by the host (R34, R35). -/
def storeReg (r : Reg) (v : Byte) (s : State) : State :=
  match r with
  | .frameId => { s with frameId := v }
  | .frameCtl => { s with dataCount := v.extractLsb' 0 4, lenValid := v.getLsbD 4, variant := variantOf (v.getLsbD 5) }
  | .frameLen => { s with frameLen := v.extractLsb' 0 4 }
  | .data i => { s with data := s.data.set i v }
  | .cmd => s
  | .status => s
  | .result => s
  | .pidView => s
  | .cksumView => s
  | .hdrPid => s
  | .frameCksum => s
  | .reserved => s

/-! ## Refusing and accepting -/

/-- `reject(cause)`: REJ_CAUSE, and nothing else (R107). -/
def reject (cause : RejCause) (s : State) : State := { s with rejCause := cause }

/-- The effect of accepting an exchange command: it is latched in PEND, and the outcome, the error code and the refusal
are cleared (R108). -/
def accept (c : Pend) (s : State) : State :=
  { s with pend := c, outcome := .none, errCode := .none, rejCause := .none }

/-- The admission of a command: accepted in STATE `st` with BUSY = 0, refused with BAD_STATE otherwise (R106). -/
def admitCmd (st : ExState) (c : Pend) (s : State) : State :=
  if s.exState = st ∧ busy s = false then accept c s else reject .badState s

/-- A command outside the node's role is refused with ILLEGAL_CMD (R64, R105). -/
def underRole (r : Role) (inRole s : State) : State :=
  if s.cfg.role = r then inRole else reject .illegalCmd s

/-- A host write to a frame register: refused while the core is busy, stored otherwise (R110). -/
def writeFrameReg (r : Reg) (v : Byte) (s : State) : State :=
  if busy s = true then reject .frameLocked s else storeReg r v s

/-! ## Ending an exchange -/

/-- `fail(code)`: taking an exchange failure (R153). -/
def fail (code : ErrCode) (s : State) : State :=
  { s with txn := none, syncSeen := false, exState := .error, outcome := .failed, errCode := code }

/-- An exchange reaches COMPLETE (R124, R127, R129, R145, R146). -/
def completed (s : State) : State :=
  { s with exState := .complete, outcome := .completed, errCode := .none }

/-- The terminal step, the return from COMPLETE and from ERROR: STATE goes to IDLE, nothing else changes (R115). -/
def terminalStep (s : State) : State := { s with exState := .idle }

/-- A wait ends in IDLE without a header: an outstanding read is abandoned (R116, R138 to R140). -/
def endWait (o : ExOutcome) (e : ErrCode) (s : State) : State :=
  { s with txn := none, syncSeen := false, exState := .idle, outcome := o, errCode := e }

/-- The engine issues a Transport request: it is recorded in TXN, and its answer comes in a later step (R12, R38). -/
def issue (r : Request) (s : State) : State := { s with txn := some r }

/-- A response write was answered: `Ok` keeps the checksum byte sent and completes the exchange, `IOError` fails it
(R124, R145). -/
def responseWritten (sent : List Byte) (w : WriteResult) (s : State) : State :=
  match w, sent.getLast? with
  | .ok, some c => completed { s with frameCksum := c }
  | .ok, none => completed s
  | .ioError, _ => fail .transportError s

/-- A verified response is kept: its data bytes go to the DATA registers and DATA_COUNT, its last byte to FRAME_CKSUM
(R127, R146). -/
def keepResponse (r : List Byte) (s : State) : State :=
  match r.getLast? with
  | some c =>
    completed { s with
      data := scatter r.dropLast s.data
      dataCount := BitVec.ofNat 4 r.dropLast.length
      frameCksum := c }
  | none => completed s

/-- A response read for the identifier `id` was answered (R126 to R128, R146). -/
def responseReadAnswered (id : Ident) (w : ReadResult) (s : State) : State :=
  match w with
  | .bytes r => if cksumMatch s.cfg id s.variant r = true then keepResponse r s else fail .checksumMismatch s
  | .ioError => fail .transportError s

end Sys2Proof.Machine
end

