-- ==== Sys2Proof/Machine/Master.lean ====
section
/-! DEFINITION. The master exchange: SEND and its engine and answer steps (44_master.md R119 to R129). -/

namespace Sys2Proof.Machine

/-- SEND: role MASTER (R105), accepted in IDLE with BUSY = 0 (R106, R119). The exchange runs in the engine steps below. -/
def execSend (s : State) : Host.Outcome State Fault Refusal :=
  .next (underRole .master (admitCmd .idle .send s) s)

/-- SEND start step (R120): validate, then issue the header write and enter HEADER_SENT, or fail with no request. -/
def sendStart (s : State) : State :=
  match validateMaster s with
  | some code => fail code { s with pend := .none }
  | none => issue (headerRequest s) { s with pend := .none, exState := .headerSent }

/-- Header write answer (R121). TXN is already cleared by the answer step (R112). -/
def headerAnswered (w : WriteResult) (s : State) : State :=
  match w with
  | .ok => s
  | .ioError => fail .transportError s

/-- Transmit issue (R123): STATE stays HEADER_SENT. -/
def masterTransmit (s : State) : State := issue (responseRequest (frameIdent s) s) s

/-- Receive issue (R125). -/
def masterReceive (len : Nibble) (s : State) : State :=
  issue (responseRead len) { s with exState := .awaitResponse }

/-- Silent master frame (R129): the header alone; FRAME_CKSUM keeps its value. -/
def masterSilent (s : State) : State := completed s

/-- Response dispatch (R122). -/
def responseDispatch (s : State) : State :=
  match direction s with
  | .transmit => masterTransmit s
  | .receive len => masterReceive len s
  | .silent => masterSilent s

/-- Transmit answer (R124). -/
def masterTransmitAnswered (sent : List Byte) (w : WriteResult) (s : State) : State := responseWritten sent w s

/-- Receive answer (R126, R127, R128): the identifier is FRAME_ID's. -/
def masterReceiveAnswered (w : ReadResult) (s : State) : State := responseReadAnswered (frameIdent s) w s

end Sys2Proof.Machine
end

