-- ==== Sys2Proof/Machine/Slave.lean ====
section
/-! DEFINITION. The slave exchange: WAIT and the header hunt, the deadline, COMPLETE and its steps (45_slave.md R131 to
R147). -/

namespace Sys2Proof.Machine

/-! ## WAIT -/

/-- WAIT: role SLAVE (R105), accepted in IDLE with BUSY = 0 (R106, R131). -/
def execWait (s : State) : Host.Outcome State Fault Refusal :=
  .next (underRole .slave (admitCmd .idle .wait s) s)

/-- WAIT start step (R132): no Transport request is issued. -/
def waitStart (s : State) : State := { s with pend := .none, syncSeen := false, exState := .awaitHeader }

/-- Header poll (R133): each poll reads one byte. -/
def headerPoll (s : State) : State := issue (.read 1) s

/-- Header found (R135): the partial frame, with the identifier set and data and length unset. -/
def headerFound (b : Byte) (s : State) : State :=
  { s with
    syncSeen := false
    hdrPid := b
    frameId := (idOf b).setWidth 8
    dataCount := 0
    lenValid := false
    frameLen := 0
    exState := .responsePending
    outcome := .headerReceived
    errCode := .none }

/-- One byte of the header hunt (R134): a sync byte, then a byte with correct parity (R135); a byte with wrong parity
ends this sync and the hunt goes on (R136). -/
def huntByte (b : Byte) (s : State) : State :=
  if s.syncSeen = false then { s with syncSeen := b == syncByte }
  else if pidOk b = true then headerFound b s
  else { s with syncSeen := false }

/-- Header poll answer (R134, R137). A read of one byte that brought another number of bytes is an `IOError` (R113). -/
def headerPollAnswered (w : ReadResult) (s : State) : State :=
  match w with
  | .bytes [b] => huntByte b s
  | .bytes _ => fail .transportError s
  | .ioError => fail .transportError s

/-- The environment's deadline (R140): enabled in AWAIT_HEADER, straight to IDLE with Timeout; anywhere else it is not
enabled and nothing happens (R159). -/
def deadlineStep (s : State) : State :=
  if s.exState = .awaitHeader then endWait .failed .timeout s else s

/-! ## COMPLETE -/

/-- COMPLETE: role SLAVE (R105), accepted in RESPONSE_PENDING with BUSY = 0 (R106, R141). -/
def execComplete (s : State) : Host.Outcome State Fault Refusal :=
  .next (underRole .slave (admitCmd .responsePending .complete s) s)

/-- Silent completion (R143): directly to IDLE, no Transport request. -/
def slaveSilent (s : State) : State := { s with exState := .idle, outcome := .silent, errCode := .none }

/-- Transmit issue (R144): the identifier is HDR_ID (R147); STATE stays RESPONSE_PENDING. -/
def slaveTransmit (s : State) : State := issue (responseRequest (hdrIdent s) s) s

/-- Receive issue (R146): STATE stays RESPONSE_PENDING. -/
def slaveReceive (len : Nibble) (s : State) : State := issue (responseRead len) s

/-- COMPLETE start step (R142). -/
def completeStart (s : State) : State :=
  match validateSlave s with
  | some code => fail code { s with pend := .none }
  | none =>
    match direction s with
    | .silent => slaveSilent { s with pend := .none }
    | .transmit => slaveTransmit { s with pend := .none }
    | .receive len => slaveReceive len { s with pend := .none }

/-- Transmit answer (R145). -/
def slaveTransmitAnswered (sent : List Byte) (w : WriteResult) (s : State) : State := responseWritten sent w s

/-- Receive answer (R146): the identifier is HDR_ID (R147). -/
def slaveReceiveAnswered (w : ReadResult) (s : State) : State := responseReadAnswered (hdrIdent s) w s

end Sys2Proof.Machine
end

