-- ==== Sys2Proof/Machine/Engine.lean ====
section
/-! DEFINITION. Engine scheduling: the guards of the engine's steps (43_commands.md R111). -/

namespace Sys2Proof.Machine

/-- The engine step whose guard holds, and the state it leads to; `none` if no guard holds (R111). -/
def engineStep? (s : State) : Option State :=
  match s.exState with
  | .idle =>
    match s.pend with
    | .send => some (sendStart s)
    | .wait => some (waitStart s)
    | .none => none
    | .complete => none
  | .responsePending =>
    match s.pend with
    | .complete => some (completeStart s)
    | .none => none
    | .send => none
    | .wait => none
  | .headerSent =>
    match s.txn with
    | none => some (responseDispatch s)
    | some _ => none
  | .awaitHeader =>
    match s.txn with
    | none => some (headerPoll s)
    | some _ => none
  | .awaitResponse => none
  | .complete => some (terminalStep s)
  | .error => some (terminalStep s)

/-- The engine's turn: its enabled step, or nothing where no guard holds (R111). -/
def engineTurn (s : State) : State := (engineStep? s).getD s

end Sys2Proof.Machine
end

