-- ==== Sys2Proof/Machine/Commands.lean ====
section
/-! DEFINITION. The two commands that start no exchange: NOP and CANCEL (43_commands.md R109, R116). -/

namespace Sys2Proof.Machine

/-- NOP: no effect, in every state and under both roles (R109). -/
def execNop (s : State) : Host.Outcome State Fault Refusal := .next s

/-- What a CANCEL does on a slave node (R116): it ends a wait that is accepted but not started, or that is hunting for a
header; anywhere else it has no effect and is not refused. -/
def cancelWait (s : State) : State :=
  if s.pend = .wait then { s with pend := .none, outcome := .cancelled, errCode := .none }
  else if s.exState = .awaitHeader then endWait .cancelled .none s
  else s

/-- CANCEL (R116); role SLAVE (R105). -/
def execCancel (s : State) : Host.Outcome State Fault Refusal :=
  .next (underRole .slave (cancelWait s) s)

end Sys2Proof.Machine
end

