-- ==== Sys2Proof/Machine/Dispatch.lean ====
section
/-! DEFINITION. One arm per command: what the host write of its byte to CMD does (43_commands.md R105). -/

namespace Sys2Proof.Machine

def exec (i : Instr) (s : State) : Host.Outcome State Fault Refusal :=
  match i with
  | .nop => Sys2Proof.Machine.execNop s
  | .send => Sys2Proof.Machine.execSend s
  | .wait => Sys2Proof.Machine.execWait s
  | .complete => Sys2Proof.Machine.execComplete s
  | .cancel => Sys2Proof.Machine.execCancel s

end Sys2Proof.Machine
end

