-- ==== Sys2Proof/Machine/HostPort.lean ====
section
/-! DEFINITION. The host's accesses (20_memory.md R49, R50; 43_commands.md R105, R110), the lines of its programs
(30_encoding.md R78) and the pseudo-instructions (R79). -/

namespace Sys2Proof.Machine

/-- `RegRead(a)` (R49): nothing of the core changes; the host gets the register's value. -/
def hostRead (a : Addr) (s : State) : State := { s with readOut := some (readReg (regAt a) s) }

/-- A host write of a byte to CMD (R105): a reserved byte is refused, a command is executed. -/
def commandWrite (c : Byte) (s : State) : Host.Outcome State Fault Refusal :=
  match decodeByte c with
  | .ok i => exec i s
  | .error _ => .next (reject .illegalCmd s)

/-- `RegWrite(a, v)` (R50): a command, a frame-register write, or nothing (R34, R35). -/
def hostWrite (a : Addr) (v : Byte) (s : State) : Host.Outcome State Fault Refusal :=
  match regAt a with
  | .cmd => commandWrite v s
  | .frameId => .next (writeFrameReg .frameId v s)
  | .frameCtl => .next (writeFrameReg .frameCtl v s)
  | .frameLen => .next (writeFrameReg .frameLen v s)
  | .data i => .next (writeFrameReg (.data i) v s)
  | .status => .next s
  | .result => .next s
  | .pidView => .next s
  | .cksumView => .next s
  | .hdrPid => .next s
  | .frameCksum => .next s
  | .reserved => .next s

/-- The condition of a POLL: `(value & mask) = val` (R78). -/
def pollDone (mask val value : Byte) : Bool := value &&& mask == val

/-- The host does the next line of its program (R78). A POLL is one read; it stays the next line until its condition
holds. With no line left the host takes no step. -/
def hostLineStep (s : State) : Host.Outcome State Fault Refusal :=
  match s.hostProg with
  | [] => .next s
  | .wr a v :: rest => hostWrite a v { s with hostProg := rest }
  | .rd a :: rest => .next (hostRead a { s with hostProg := rest })
  | .poll a mask val :: rest =>
    .next (hostRead a
      { s with hostProg := if pollDone mask val (readReg (regAt a) s) = true then rest else s.hostProg })

/-! ## Pseudo-instructions -/

/-- The pseudo-instructions of host programs (R79). -/
inductive Pseudo where
  | command (i : Instr)
  | waitNotBusy
  | waitIdle
  | setFrame (id ctl len : Byte)
  deriving DecidableEq, Repr

/-- The expansion column of R79. -/
def expandPseudo : Pseudo → List HostLine
  | .command i => [.wr addrCmd (encodeByte i)]
  | .waitNotBusy => [.poll 0x01#5 0x08#8 0x00#8]
  | .waitIdle => [.poll 0x01#5 0x0F#8 0x00#8]
  | .setFrame id ctl len => [.wr 0x03#5 id, .wr 0x04#5 ctl, .wr 0x05#5 len]

/-- One bus operation of a host program, `W <addr> <data>` or `R <addr>` (R78). -/
inductive BusAccess where
  | write (a : Addr) (v : Byte)
  | read (a : Addr)
  deriving DecidableEq, Repr

/-- The bus encoding of a line; a POLL is `reads` reads of one address (R78). -/
def busEncoding (reads : Nat) : HostLine → List BusAccess
  | .wr a v => [.write a v]
  | .rd a => [.read a]
  | .poll a _ _ => List.replicate reads (.read a)

end Sys2Proof.Machine
end

