-- ==== Sys2Proof/Machine/Transport.lean ====
section
/-! DEFINITION. The Transport's answer step (43_commands.md R112, R113). -/

namespace Sys2Proof.Machine

/-- An answer to a write: `Ok` or `IOError`. `Bytes` is no answer a write can have (R112): it is not taken. -/
def writeResult : Answer → Option WriteResult
  | .ok => some .ok
  | .ioError => some .ioError
  | .bytes _ => none

/-- An answer to a read of n bytes: `Bytes` of n bytes, or `IOError`. A read that brings fewer or more bytes is taken as
`IOError` (R113). `Ok` is no answer a read can have (R112): it is not taken. -/
def readResult (n : Nat) : Answer → Option ReadResult
  | .bytes r => if r.length = n then some (.bytes r) else some .ioError
  | .ioError => some .ioError
  | .ok => none

/-- Whether the Transport can give this answer to this request (the answer sets of R112, with R113's wrong lengths). -/
def answerFits : Request → Answer → Bool
  | .write _ _, a => (writeResult a).isSome
  | .read n, a => (readResult n a).isSome

/-- The dispatch of R112 on (STATE, request) for a write. `s` has TXN already cleared. -/
def writeAnswered (kind : TxKind) (sent : List Byte) (w : WriteResult) (s : State) :
    Host.Outcome State Fault Refusal :=
  match s.exState, kind with
  | .headerSent, .header => .next (headerAnswered w s)
  | .headerSent, .response => .next (masterTransmitAnswered sent w s)
  | .responsePending, .response => .next (slaveTransmitAnswered sent w s)
  | _, _ => .fault .unlistedAnswer

/-- The dispatch of R112 on (STATE, request) for a read of n bytes. `s` has TXN already cleared. -/
def readAnswered (n : Nat) (w : ReadResult) (s : State) : Host.Outcome State Fault Refusal :=
  match s.exState with
  | .awaitResponse => .next (masterReceiveAnswered w s)
  | .awaitHeader => if n = 1 then .next (headerPollAnswered w s) else .fault .unlistedAnswer
  | .responsePending => .next (slaveReceiveAnswered w s)
  | .idle => .fault .unlistedAnswer
  | .headerSent => .fault .unlistedAnswer
  | .complete => .fault .unlistedAnswer
  | .error => .fault .unlistedAnswer

/-- The Transport answer step (R112): enabled when a request is outstanding; the request is cleared and the answer taken.
With no request outstanding, or for an answer the request cannot have, nothing happens (R139, notes/assumptions/5.md). -/
def transportAnswer (a : Answer) (s : State) : Host.Outcome State Fault Refusal :=
  match s.txn with
  | none => .next s
  | some (.write kind sent) =>
    match writeResult a with
    | some w => writeAnswered kind sent w { s with txn := none }
    | none => .next s
  | some (.read n) =>
    match readResult n a with
    | some w => readAnswered n w { s with txn := none }
    | none => .next s

end Sys2Proof.Machine
end

