-- ==== Sys2Proof/Machine/Agents.lean ====
section
/-! DEFINITION. The agents' steps (43_commands.md R118) and which comes next (00_scope.md R7). -/

namespace Sys2Proof.Machine

/-- Reset (R166): every piece of core state takes its reset value; the parameters stay (R167), and so does what is not
the core's: what is scheduled, the host's program and what the host read last. -/
def resetStep (s : State) : State :=
  { State.resetOf s.cfg with inputs := s.inputs, hostProg := s.hostProg, readOut := s.readOut, drawn := s.drawn }

/-- The step of one event (R118). An event that is not enabled changes nothing. -/
def act (e : Event) (s : State) : Host.Outcome State Fault Refusal :=
  match e with
  | .hostRead a => .next (hostRead a s)
  | .hostWrite a v => hostWrite a v s
  | .hostLine => hostLineStep s
  | .engine => .next (engineTurn s)
  | .answer a => transportAnswer a s
  | .deadline => .next (deadlineStep s)
  | .reset => .next (resetStep s)

/-- Whether an event is enabled (the column "enabled when" of R118). A host access and a reset always are; the host's
next line is when it has one; an answer is when the outstanding request can have it (R112). -/
def enabled (e : Event) (s : State) : Bool :=
  match e with
  | .hostRead _ => true
  | .hostWrite _ _ => true
  | .hostLine => !s.hostProg.isEmpty
  | .engine => (engineStep? s).isSome
  | .answer a =>
    match s.txn with
    | none => false
    | some r => answerFits r a
  | .deadline => s.exState == .awaitHeader
  | .reset => true

/-- The next event and the state it acts on: the first scheduled event, or a free one (R7, notes/assumptions/2.md). -/
def nextEvent (s : State) : Event × State :=
  match s.inputs with
  | e :: rest => (e, { s with inputs := rest })
  | [] => (Config.freeEvent s.drawn, { s with drawn := s.drawn + 1 })

/-- Put the host write of the command byte `w` before everything scheduled. -/
def scheduleCommand (w : Nat) (s : State) : State :=
  { s with inputs := .hostWrite addrCmd (BitVec.ofNat 8 w) :: s.inputs }

/-- A sequence of events, one after the other, from one state; it stops at the first fault or refusal. -/
def actAll : List Event → State → Host.Outcome State Fault Refusal
  | [], s => .next s
  | e :: rest, s =>
    match act e s with
    | .next t => actAll rest t
    | .fault r => .fault r
    | .refused r => .refused r

end Sys2Proof.Machine
end

