-- ==== Sys2Proof/Machine/Step.lean ====
section
/-! DEFINITION. One step of the machine: the next event of one agent, atomically (00_scope.md R6, R7, R57). -/

namespace Sys2Proof.Machine

/-- One step: the next event acts. The core fetches no instruction (10_state.md R19); a command comes as the event of a
host write to CMD. -/
def step (s : State) : Host.Outcome State Fault Refusal := act (nextEvent s).1 (nextEvent s).2

/-- The command byte `w` placed so that the very next step is the host write of it to CMD (notes/assumptions/3.md). -/
def State.withFetchWord (s : State) (_nbits w : Nat) : State := scheduleCommand w s

end Sys2Proof.Machine
end

