-- ==== Sys2Proof/Safety.lean ====
section
/-! DEFINITION. The terms claims use: the invariants of the reachable states (10_state.md R42) and of an exchange in
progress, quiescence (70_reset_and_hazards.md R179), runs as sequences of events, fairness (R180), and the rank of a
master exchange (44_master.md R130 (d)). -/

namespace Sys2Proof.Machine

/-- What every reachable state satisfies, as R42 (a) to (f) lists it. -/
structure ListedInv (s : State) : Prop where
  /-- (a) -/
  pendNoRequest : s.pend ≠ .none → s.txn = none
  /-- (b) -/
  pendSend : s.pend = .send → s.exState = .idle
  /-- (b) -/
  pendWait : s.pend = .wait → s.exState = .idle
  /-- (b) -/
  pendComplete : s.pend = .complete → s.exState = .responsePending
  /-- (c) -/
  headerWrite : ∀ b, s.txn = some (.write .header b) → s.exState = .headerSent
  /-- (c) -/
  responseWrite : ∀ b, s.txn = some (.write .response b) → s.exState = .headerSent ∨ s.exState = .responsePending
  /-- (c) -/
  read : ∀ n, s.txn = some (.read n) →
    s.exState = .awaitResponse ∨ (s.exState = .awaitHeader ∧ n = 1) ∨ s.exState = .responsePending
  /-- (d) -/
  sync : s.syncSeen = true → s.exState = .awaitHeader
  /-- (e) -/
  terminal : s.exState = .complete ∨ s.exState = .error → s.pend = .none ∧ s.txn = none
  /-- (f) -/
  failedIffCode : s.outcome = .failed ↔ s.errCode ≠ .none

/-- What is known of the exchange in each state, read from the step rules (44_master.md, 45_slave.md): the roles, the
validated frame, the request that is outstanding, the received header, the outcome so far. With R42 it is kept by every
step. -/
structure ExchangeInv (s : State) : Prop where
  listed : ListedInv s
  /-- SEND and the master states are a master's (R64, R105). -/
  masterRole : s.pend = .send ∨ s.exState = .headerSent ∨ s.exState = .awaitResponse → s.cfg.role = .master
  /-- WAIT, COMPLETE and the slave states are a slave's (R64, R105). -/
  slaveRole : s.pend = .wait ∨ s.pend = .complete ∨ s.exState = .awaitHeader ∨ s.exState = .responsePending →
    s.cfg.role = .slave
  /-- A header is sent only for a validated frame, and the frame is locked from then on (R102, R110, R120). -/
  masterValid : s.exState = .headerSent ∨ s.exState = .awaitResponse → validateMaster s = none
  /-- The header write outstanding is the one of FRAME_ID (R74). -/
  headerRequested : ∀ b, s.txn = some (.write .header b) → b = headerBytes s.cfg (frameIdent s)
  /-- A master's response write is of a transmit frame, with FRAME_ID's checksum (R123). -/
  masterWrites : ∀ b, s.exState = .headerSent → s.txn = some (.write .response b) →
    direction s = .transmit ∧ b = responseBytes (frameIdent s) s
  /-- AWAIT_RESPONSE is a receive with its read outstanding (R125). -/
  masterReads : s.exState = .awaitResponse → direction s = .receive s.frameLen ∧ s.txn = some (responseRead s.frameLen)
  /-- A slave's response write is of a valid transmit frame, with HDR_ID's checksum (R142, R144). -/
  slaveWrites : ∀ b, s.exState = .responsePending → s.txn = some (.write .response b) →
    validateSlave s = none ∧ direction s = .transmit ∧ b = responseBytes (hdrIdent s) s
  /-- A slave's response read is of a valid receive frame (R142, R146). -/
  slaveReads : ∀ n, s.exState = .responsePending → s.txn = some (.read n) →
    validateSlave s = none ∧ direction s = .receive s.frameLen ∧ n = s.frameLen.toNat + 1
  /-- A slave exchange answers a header whose PID was correct (R32, R135). -/
  headerHeld : s.exState = .responsePending → pidOk s.hdrPid = true
  /-- HDR_PID is its reset value or a PID (R32, R87). -/
  hdrPidShape : s.hdrPid = 0 ∨ pidOk s.hdrPid = true
  /-- The outcome is clear while a command works (R108) … -/
  outcomeClear : s.pend ≠ .none ∨ s.exState = .headerSent ∨ s.exState = .awaitResponse ∨ s.exState = .awaitHeader ∨
    (s.exState = .responsePending ∧ s.txn ≠ none) → s.outcome = .none
  /-- … says that a header was received while the host decides (R135) … -/
  outcomeHeader : s.exState = .responsePending → s.pend = .none → s.txn = none → s.outcome = .headerReceived
  /-- … and is final in COMPLETE and ERROR (R172). -/
  outcomeComplete : s.exState = .complete → s.outcome = .completed
  outcomeError : s.exState = .error → s.outcome = .failed
  /-- ERR_CODE 6 is never written (R66, R155). -/
  noStateErrorCode : s.errCode ≠ .protocolStateError

/-- A safe step: the machine goes on (no fault, no refusal). -/
def StepsOn (s : State) : Prop := ∃ t, step s = .next t

/-- No engine, Transport or environment step other than reset is enabled (R179). -/
def Quiescent (s : State) : Prop :=
  enabled .engine s = false ∧ (∀ a, enabled (.answer a) s = false) ∧ enabled .deadline s = false

/-- The core's own part of a state: what is not the core's is blanked. -/
def coreOf (s : State) : State := { s with inputs := [], hostProg := [], readOut := none, drawn := 0 }

/-- The frame registers of t are those of s (R25). -/
def SameFrame (s t : State) : Prop :=
  t.frameId = s.frameId ∧ t.dataCount = s.dataCount ∧ t.lenValid = s.lenValid ∧ t.variant = s.variant ∧
    t.frameLen = s.frameLen ∧ t.data = s.data

/-- The host's events (R118). -/
def hostEvent : Event → Bool
  | .hostRead _ => true
  | .hostWrite _ _ => true
  | .hostLine => true
  | .engine => false
  | .answer _ => false
  | .deadline => false
  | .reset => false

/-- An endless run: at time n the event `ev n` acts on `r n` and leads to `r (n + 1)`. -/
def EventRun (ev : Nat → Event) (r : Nat → State) : Prop := ∀ n, act (ev n) (r n) = .next (r (n + 1))

/-- The engine is weakly fair: an engine step that stays enabled is eventually taken (R180). -/
def EngineFair (ev : Nat → Event) (r : Nat → State) : Prop :=
  ∀ n, (∀ m, n ≤ m → enabled .engine (r m) = true) → ∃ m, n ≤ m ∧ ev m = .engine

/-- The Transport answers: a request that stays outstanding is eventually answered (the condition of R130 (d) and R180). -/
def TransportAnswers (ev : Nat → Event) (r : Nat → State) : Prop :=
  ∀ n, (∀ m, n ≤ m → (r m).txn ≠ none) → ∃ m a, n ≤ m ∧ ev m = .answer a ∧ enabled (.answer a) (r m) = true

/-- How many engine and answer steps a master exchange still needs at most. -/
def sendRank (s : State) : Nat :=
  if s.pend = .send then 5
  else
    match s.exState, s.txn with
    | .headerSent, some (.write .header _) => 4
    | .headerSent, none => 3
    | .headerSent, some _ => 2
    | .awaitResponse, _ => 2
    | .complete, _ => 1
    | .error, _ => 1
    | .idle, _ => 0
    | .awaitHeader, _ => 0
    | .responsePending, _ => 0

end Sys2Proof.Machine
end

