-- ==== Sys2Proof/Certificates/Slice0/Obligations.lean ====
section
/-! DEFINITION. The statements for the provers. Each is a formal reading of numbered rules of spec/; where one rests on a
choice of the model, its docstring says so and names the log entry. -/

open Sys2Proof Sys2Proof.Machine

/-! ## Encoding -/

/-- R63: the five command bytes decode to the commands of the table. -/
def Obligations.TheTableBytesDecodeToTheirCommands : Prop :=
  decodeByte 0b00000000#8 = .ok .nop ∧ decodeByte 0b00000001#8 = .ok .send ∧ decodeByte 0b00000010#8 = .ok .wait ∧
  decodeByte 0b00000011#8 = .ok .complete ∧ decodeByte 0b00000100#8 = .ok .cancel

/-- Decode and encode agree, on sequences of command bytes: a sequence of bytes decodes to a sequence of well-formed
commands exactly when it is their encoding, so no bit of a command byte is dropped and every reserved byte is refused
(R62, R63, R64, R80). -/
def Obligations.DecodingASequenceInvertsEncodingIt : Prop :=
  ∀ (bytes : List Byte) (cmds : List Instr),
    (∀ i ∈ cmds, i.wellFormed = true) → (decodeAll bytes = .ok cmds ↔ bytes = cmds.flatMap encode)

/-- R64: a host write to CMD of a reserved byte, 0x05 to 0xFF, or of a command outside the node's role, is refused with
ILLEGAL_CMD in every state, and nothing else changes. -/
def Obligations.IllegalCommandBytesAreRefused : Prop :=
  ∀ (s : State) (c : Byte),
    5 ≤ c.toNat ∨ (s.cfg.role = .slave ∧ decodeByte c = .ok .send) ∨
      (s.cfg.role = .master ∧ (decodeByte c = .ok .wait ∨ decodeByte c = .ok .complete ∨ decodeByte c = .ok .cancel)) →
    (5 ≤ c.toNat → decodeByte c = .error (.reservedByte c)) ∧
    act (.hostWrite 0x00#5 c) s = .next { s with rejCause := .illegalCmd }

/-! ## The step -/

/-- The first scheduled event acts; with nothing scheduled a free event acts, whatever it is (the model's own, log
entries 1 and 2). -/
def Obligations.AStepTakesTheNextEvent : Prop :=
  ∀ s : State,
    (∀ e rest, s.inputs = e :: rest → step s = act e { s with inputs := rest }) ∧
    (s.inputs = [] → step s = act (Config.freeEvent s.drawn) { s with drawn := s.drawn + 1 })

/-- R105: when the next event is the host write to CMD of a byte that decodes to a command, the step is that command's
meaning; and so is a line `WR CMD` of the host's program. -/
def Obligations.AStepRunsTheDecodedCommand : Prop :=
  ∀ (s : State) (c : Byte) (i : Instr), decodeByte c = .ok i →
    (∀ rest, s.inputs = .hostWrite 0x00#5 c :: rest → step s = exec i { s with inputs := rest }) ∧
    (∀ rest lines, s.inputs = .hostLine :: rest → s.hostProg = .wr 0x00#5 c :: lines →
      step s = exec i { s with inputs := rest, hostProg := lines })

/-- The model's own convention (log entry 5, DEDUCED): an event that is not enabled changes nothing. R118 says when an
event is enabled, and no more. -/
def Obligations.AnEventThatIsNotEnabledChangesNothing : Prop :=
  ∀ (e : Event) (s : State), enabled e s = false → act e s = .next s

/-! ## The host's register space -/

/-- R49: a host read changes nothing of the core, not even the scheduled events; two reads in a row return the same. -/
def Obligations.AHostReadChangesNothing : Prop :=
  ∀ (a : Addr) (s : State), ∃ t,
    act (.hostRead a) s = .next t ∧ t = { s with readOut := some (readReg (regAt a) s) } ∧
    act (.hostRead a) t = .next t

/-- R21 to R35: what each of the 32 addresses reads as. The codes of the fields of STATUS and RESULT are given in numbers
by StatusAndResultHoldTheirFields. -/
def Obligations.EachAddressReadsItsRegister : Prop :=
  ∀ (s : State),
    readReg (regAt 0x00) s = 0 ∧
    (readReg (regAt 0x01) s).toNat =
      (stateCode s.exState).toNat + 8 * (busy s).toNat + 16 * (rejCauseCode s.rejCause).toNat ∧
    (readReg (regAt 0x02) s).toNat = (outcomeCode s.outcome).toNat + 8 * (errCodeBits s.errCode).toNat ∧
    readReg (regAt 0x03) s = s.frameId ∧
    (readReg (regAt 0x04) s).toNat =
      s.dataCount.toNat + 16 * s.lenValid.toNat + 32 * (if s.variant = .enhanced then 1 else 0) ∧
    (readReg (regAt 0x05) s).toNat = s.frameLen.toNat ∧
    readReg (regAt 0x06) s = pid (s.frameId.extractLsb' 0 6) ∧
    readReg (regAt 0x07) s =
      frameCksum s.cfg (s.frameId.extractLsb' 0 6) s.variant (s.data.toList.take (min s.dataCount.toNat 8)) ∧
    readReg (regAt 0x08) s = s.hdrPid ∧ readReg (regAt 0x09) s = s.frameCksum ∧
    (∀ (a : Addr) (i : Fin 8), a.toNat = 0x10 + i.val → readReg (regAt a) s = s.data[i]) ∧
    (∀ a : Addr, (0x0A ≤ a.toNat ∧ a.toNat ≤ 0x0F) ∨ 0x18 ≤ a.toNat → readReg (regAt a) s = 0)

/-- R23, R24, R41, R65 to R68: where the fields of STATUS and RESULT stand, the code of each value in numbers, that the
reserved bits read 0, and when BUSY is 1. -/
def Obligations.StatusAndResultHoldTheirFields : Prop :=
  ∀ (s : State),
    (readReg (regAt 0x01) s).extractLsb' 0 3 = (match s.exState with
      | .idle => 0#3
      | .headerSent => 1#3
      | .awaitResponse => 2#3
      | .awaitHeader => 3#3
      | .responsePending => 4#3
      | .complete => 5#3
      | .error => 6#3) ∧
    ((readReg (regAt 0x01) s).getLsbD 3 = true ↔ (s.pend ≠ .none ∨ s.txn ≠ none ∨
      s.exState = .headerSent ∨ s.exState = .awaitResponse ∨ s.exState = .awaitHeader)) ∧
    (readReg (regAt 0x01) s).extractLsb' 4 2 = (match s.rejCause with
      | .none => 0#2
      | .illegalCmd => 1#2
      | .badState => 2#2
      | .frameLocked => 3#2) ∧
    (readReg (regAt 0x01) s).extractLsb' 6 2 = 0 ∧
    (readReg (regAt 0x02) s).extractLsb' 0 3 = (match s.outcome with
      | .none => 0#3
      | .completed => 1#3
      | .headerReceived => 2#3
      | .silent => 3#3
      | .cancelled => 4#3
      | .failed => 5#3) ∧
    (readReg (regAt 0x02) s).extractLsb' 3 3 = (match s.errCode with
      | .none => 0#3
      | .invalidIdentifier => 1#3
      | .payloadTooLarge => 2#3
      | .checksumMismatch => 3#3
      | .transportError => 4#3
      | .timeout => 5#3
      | .protocolStateError => 6#3
      | .frameIncoherent => 7#3) ∧
    (readReg (regAt 0x02) s).extractLsb' 6 2 = 0

/-- R80: the FRAME_CTL byte of a frame with n data bytes, length flag f and variant v is n + 16 f + 32 v. -/
def Obligations.FrameCtlIsItsFieldsAdded : Prop :=
  ∀ (s : State),
    (readReg (regAt 0x04) s).toNat =
      s.dataCount.toNat + 16 * (if s.lenValid = true then 1 else 0) + 32 * (if s.variant = .enhanced then 1 else 0)

/-- R110: a host write to a frame register. With BUSY = 1 it is refused with FRAME_LOCKED and nothing else changes; with
BUSY = 0 the byte is stored less its reserved bits, whatever it is: a read of that register returns it, every other
register but the two computed views reads as before, and the sequencing state, the parameters and the outside world are
as before. -/
def Obligations.FrameRegisterWritesAreStoredOrLocked : Prop :=
  ∀ (s : State) (r : Reg) (a : Addr) (v : Byte), addrOf r = some a → accessOf r = .readWrite →
    (busy s = true → act (.hostWrite a v) s = .next { s with rejCause := .frameLocked }) ∧
    (busy s = false → ∃ t, act (.hostWrite a v) s = .next t ∧
      readReg r t = (match r with
        | .frameCtl => v &&& 0x3F#8
        | .frameLen => v &&& 0x0F#8
        | _ => v) ∧
      (r = .frameCtl → t.dataCount = v.extractLsb' 0 4 ∧ t.lenValid = v.getLsbD 4 ∧
        (t.variant = .enhanced ↔ v.getLsbD 5 = true)) ∧
      (∀ r', r' ≠ r → r' ≠ .pidView → r' ≠ .cksumView → readReg r' t = readReg r' s) ∧
      t.pend = s.pend ∧ t.txn = s.txn ∧ t.syncSeen = s.syncSeen ∧ t.cfg = s.cfg ∧
      t.inputs = s.inputs ∧ t.hostProg = s.hostProg ∧ t.readOut = s.readOut ∧ t.drawn = s.drawn)

/-- R34, R35: a host write to a read-only register or a reserved address has no effect and sets no field, and a reserved
address reads 0x00. -/
def Obligations.ReadOnlyAndReservedAddressesIgnoreWrites : Prop :=
  ∀ (s : State) (a : Addr) (v : Byte),
    (a.toNat = 1 ∨ a.toNat = 2 ∨ (6 ≤ a.toNat ∧ a.toNat ≤ 0x0F) ∨ 0x18 ≤ a.toNat →
      act (.hostWrite a v) s = .next s) ∧
    ((0x0A ≤ a.toNat ∧ a.toNat ≤ 0x0F) ∨ 0x18 ≤ a.toNat →
      act (.hostRead a) s = .next { s with readOut := some 0x00#8 })

/-- R59, R110: while BUSY = 1 no event of the host changes a frame register, the parameters or an exchange command that
is accepted or running: only CANCEL ends one, and only a wait. -/
def Obligations.WhileBusyTheHostCannotChangeTheFrame : Prop :=
  ∀ (e : Event) (s t : State), busy s = true → hostEvent e = true → act e s = .next t →
    SameFrame s t ∧ t.hdrPid = s.hdrPid ∧ t.frameCksum = s.frameCksum ∧ t.cfg = s.cfg ∧
    ((t.pend = s.pend ∧ t.txn = s.txn ∧ t.exState = s.exState ∧ t.outcome = s.outcome ∧ t.errCode = s.errCode) ∨
      (s.cfg.role = .slave ∧ (s.pend = .wait ∨ s.exState = .awaitHeader) ∧ t.outcome = .cancelled))

/-- R78: a WR or RD line of the host's program does its access and is then done. A POLL repeats its read until
`(value & mask) = val`; that this is one read a step, the line staying the next one, is the model's reading (log entry 10,
DEDUCED). -/
def Obligations.TheHostDoesItsProgramLineByLine : Prop :=
  ∀ (s : State) (a : Addr) (v mask val : Byte) (rest : List HostLine),
    (s.hostProg = .wr a v :: rest → act .hostLine s = act (.hostWrite a v) { s with hostProg := rest }) ∧
    (s.hostProg = .rd a :: rest → act .hostLine s = act (.hostRead a) { s with hostProg := rest }) ∧
    (s.hostProg = .poll a mask val :: rest → readReg (regAt a) s &&& mask = val →
      act .hostLine s = .next { s with readOut := some (readReg (regAt a) s), hostProg := rest }) ∧
    (s.hostProg = .poll a mask val :: rest → readReg (regAt a) s &&& mask ≠ val →
      act .hostLine s = .next { s with readOut := some (readReg (regAt a) s) })

/-- R79: the pseudo-instructions and their expansions, with the addresses of R21. -/
def Obligations.PseudoInstructionsExpandAsListed : Prop :=
  expandPseudo (.command .nop) = [.wr 0x00#5 0x00#8] ∧ expandPseudo (.command .send) = [.wr 0x00#5 0x01#8] ∧
  expandPseudo (.command .wait) = [.wr 0x00#5 0x02#8] ∧ expandPseudo (.command .complete) = [.wr 0x00#5 0x03#8] ∧
  expandPseudo (.command .cancel) = [.wr 0x00#5 0x04#8] ∧
  expandPseudo .waitNotBusy = [.poll 0x01#5 0x08#8 0x00#8] ∧ expandPseudo .waitIdle = [.poll 0x01#5 0x0F#8 0x00#8] ∧
  (∀ id ctl len : Byte, expandPseudo (.setFrame id ctl len) = [.wr 0x03#5 id, .wr 0x04#5 ctl, .wr 0x05#5 len]) ∧
  addrOf .cmd = some 0x00#5 ∧ addrOf .status = some 0x01#5 ∧ addrOf .frameId = some 0x03#5 ∧
  addrOf .frameCtl = some 0x04#5 ∧ addrOf .frameLen = some 0x05#5

/-! ## Parity and the PID -/

/-- R81, R82: the PID's bits. Bits 5 to 0 are the identifier, bit 6 is P0 and bit 7 is P1. -/
def Obligations.PidCarriesTheIdentifierAndItsParity : Prop :=
  ∀ (id : Ident),
    (∀ k, k < 6 → (pid id).getLsbD k = id.getLsbD k) ∧
    (pid id).getLsbD 6 = (id.getLsbD 0 ^^ id.getLsbD 1 ^^ id.getLsbD 2 ^^ id.getLsbD 4) ∧
    (pid id).getLsbD 7 = !(id.getLsbD 1 ^^ id.getLsbD 3 ^^ id.getLsbD 4 ^^ id.getLsbD 5)

/-- R84: a byte passes the parity check exactly when it is the PID of the identifier it carries, so of the four bytes with
one identifier exactly one passes; 0x00 and 0xFF fail and the sync byte 0x55 passes. -/
def Obligations.PidOkExactlyForThePids : Prop :=
  (∀ (b : Byte) (id : Ident), (pidOk b = true ∧ idOf b = id) ↔ b = pid id) ∧
  pidOk 0x00#8 = false ∧ pidOk 0xFF#8 = false ∧ pidOk 0x55#8 = true

/-- R85: PID_VIEW is the PID of FRAME_ID's low six bits, whatever bits 7 and 6 are, computed at the read: right after a
host write of v to FRAME_ID it reads the PID of v[5:0]. -/
def Obligations.PidViewFollowsFrameId : Prop :=
  ∀ (s : State) (v : Byte),
    readReg (regAt 0x06) s = pid (s.frameId.extractLsb' 0 6) ∧
    (busy s = false →
      ∃ t, act (.hostWrite 0x03#5 v) s = .next t ∧ readReg (regAt 0x06) t = pid (v.extractLsb' 0 6))

/-! ## The checksum engine -/

/-- R97 (a): the closed form of the end-around-carry sum; it depends on the exact sum of the bytes alone, so not on their
order, and lies in 0 to 255. -/
def Obligations.AccSumIsTheSumModulo255 : Prop :=
  ∀ s : List Byte,
    accSum s = (if (s.map BitVec.toNat).sum = 0 then 0 else 1 + ((s.map BitVec.toNat).sum - 1) % 255) ∧
    accSum s ≤ 255 ∧ (∀ s', s.Perm s' → accSum s' = accSum s)

/-- R97 (b), (c), (d). -/
def Obligations.AccSumAndChecksumCorners : Prop :=
  ∀ s : List Byte,
    (accSum s = 0 ↔ ∀ b ∈ s, b = 0x00#8) ∧
    (1 ≤ accSum s → accSum (s ++ [0xFF#8]) = accSum s) ∧
    (accSum s = 0 → accSum (s ++ [0xFF#8]) = 255) ∧
    (checksum s).toNat = 255 - accSum s ∧
    (checksum s = 0 ↔ accSum s = 255)

/-- R91, R92, R93: which bytes the checksum is taken over: the data alone for Classic and for identifiers 60 to 63, the
identifier byte and the data for Enhanced, that byte being the identifier or the PID by ENH_ID_FORM; below 60 the two forms
give one byte exactly for the identifiers R91 lists. -/
def Obligations.TheChecksumIsTakenOverTheSelectedBytes : Prop :=
  ∀ (c : Config) (id : Ident) (v : Variant) (d : List Byte),
    (60 ≤ id.toNat → effVariant id v = .classic ∧ frameCksum c id v d = checksum d) ∧
    (id.toNat < 60 → effVariant id v = v) ∧
    (v = .classic → frameCksum c id v d = checksum d) ∧
    (id.toNat < 60 → v = .enhanced → c.enhIdForm = .rawId → frameCksum c id v d = checksum (id.setWidth 8 :: d)) ∧
    (id.toNat < 60 → v = .enhanced → c.enhIdForm = .pid → frameCksum c id v d = checksum (pid id :: d)) ∧
    (id.toNat < 60 →
      (pid id = id.setWidth 8 ↔ id.toNat ∈ [3, 6, 8, 13, 17, 20, 26, 31, 32, 37, 43, 46, 50, 55, 57]))

/-- R96: a received response verifies exactly when its last byte equals the checksum of the bytes before it. -/
def Obligations.AResponseVerifiesByByteEquality : Prop :=
  ∀ (c : Config) (id : Ident) (v : Variant) (d : List Byte) (k : Byte),
    cksumMatch c id v (d ++ [k]) = true ↔ k = frameCksum c id v d

/-- R95: CKSUM_VIEW is the checksum of the frame registers with min(DATA_COUNT, 8) data bytes; it is the byte a master's
transmit sends last, and the byte a slave's transmit sends last while FRAME_ID and HDR_PID carry one identifier. -/
def Obligations.CksumViewIsTheByteATransmitSendsLast : Prop :=
  ∀ (s : State),
    readReg (regAt 0x07) s =
      frameCksum s.cfg (s.frameId.extractLsb' 0 6) s.variant (s.data.toList.take (min s.dataCount.toNat 8)) ∧
    (s.exState = .headerSent → s.txn = none → 1 ≤ s.dataCount.toNat →
      ∃ t b, act .engine s = .next t ∧ t.txn = some (.write .response b) ∧ b.getLast? = some (readReg (regAt 0x07) s)) ∧
    (s.exState = .responsePending → s.pend = .complete → validateSlave s = none → 1 ≤ s.dataCount.toNat →
      hdrIdent s = frameIdent s →
      ∃ t b, act .engine s = .next t ∧ t.txn = some (.write .response b) ∧ b.getLast? = some (readReg (regAt 0x07) s))

/-! ## Frame validation -/

/-- R98 to R102: when `validate_master` gives which result. -/
def Obligations.MasterValidationGivesTheFirstFailure : Prop :=
  ∀ (s : State),
    let tooLarge := s.dataCount.toNat > 8 ∨ (s.lenValid = true ∧ s.frameLen.toNat > 8)
    let incoherent := s.lenValid = true ∧
      (s.frameLen.toNat = 0 ∨ (1 ≤ s.dataCount.toNat ∧ s.frameLen.toNat ≠ s.dataCount.toNat))
    (validateMaster s = some .invalidIdentifier ↔ s.frameId.toNat > 63) ∧
    (validateMaster s = some .payloadTooLarge ↔ s.frameId.toNat ≤ 63 ∧ tooLarge) ∧
    (validateMaster s = some .frameIncoherent ↔ s.frameId.toNat ≤ 63 ∧ ¬ tooLarge ∧ incoherent) ∧
    (validateMaster s = none ↔ s.frameId.toNat ≤ 63 ∧ ¬ tooLarge ∧ ¬ incoherent) ∧
    (s.frameId.toNat ≤ 63 → validateSlave s = validateMaster s) ∧
    (∀ x, validateSlave { s with frameId := x } = validateSlave s)

/-- R103: a validated frame transmits 1 to 8 bytes, receives 1 to 8 bytes, or is silent. -/
def Obligations.AValidFrameHasOneDirection : Prop :=
  ∀ (s : State), validateSlave s = none →
    (direction s = .transmit ↔ 1 ≤ s.dataCount.toNat ∧ s.dataCount.toNat ≤ 8) ∧
    (∀ len, direction s = .receive len ↔
      s.dataCount.toNat = 0 ∧ s.lenValid = true ∧ s.frameLen = len ∧ 1 ≤ len.toNat ∧ len.toNat ≤ 8) ∧
    (direction s = .silent ↔ s.dataCount.toNat = 0 ∧ s.lenValid = false)

/-! ## The commands -/

/-- R109: NOP, the CMD byte 0x00, changes no state, in every state and under both roles, and is never refused. -/
def Obligations.NopChangesNothing : Prop :=
  ∀ s : State, exec .nop s = .next s ∧ act (.hostWrite 0x00#5 0x00#8) s = .next s

/-- R106, R108: an exchange command that its state and role accept is latched in PEND; the outcome, the error code and
the refusal are cleared; nothing else changes; and the core is busy. -/
def Obligations.AcceptedCommandsAreLatched : Prop :=
  ∀ s : State, busy s = false →
    (s.cfg.role = .master → s.exState = .idle →
      exec .send s = .next { s with pend := .send, outcome := .none, errCode := .none, rejCause := .none }) ∧
    (s.cfg.role = .slave → s.exState = .idle →
      exec .wait s = .next { s with pend := .wait, outcome := .none, errCode := .none, rejCause := .none }) ∧
    (s.cfg.role = .slave → s.exState = .responsePending →
      exec .complete s = .next { s with pend := .complete, outcome := .none, errCode := .none, rejCause := .none }) ∧
    (∀ (i : Instr) (t : State), exec i s = .next t → t.pend ≠ .none → busy t = true)

/-- R116: CANCEL on a slave ends a wait that is accepted but not started, or that hunts for a header (its outstanding read
is abandoned); in any other state it has no effect and is not refused. On a master it is refused with ILLEGAL_CMD. -/
def Obligations.CancelEndsAWaitAndElsewhereDoesNothing : Prop :=
  ∀ s : State,
    (s.cfg.role = .slave → s.pend = .wait →
      exec .cancel s = .next { s with pend := .none, outcome := .cancelled, errCode := .none }) ∧
    (s.cfg.role = .slave → s.pend ≠ .wait → s.exState = .awaitHeader → exec .cancel s = .next
      { s with txn := none, syncSeen := false, exState := .idle, outcome := .cancelled, errCode := .none }) ∧
    (s.cfg.role = .slave → s.pend ≠ .wait → s.exState ≠ .awaitHeader → exec .cancel s = .next s) ∧
    (s.cfg.role = .master → exec .cancel s = .next { s with rejCause := .illegalCmd })

/-- R106, R107, R155: an exchange command of the node's role that the state does not accept is refused with BAD_STATE; the
exchange in progress, RESULT and the frame registers are not touched. -/
def Obligations.CommandsInTheWrongStateAreRefused : Prop :=
  ∀ (s : State) (i : Instr),
    (s.cfg.role = .master ∧ i = .send ∧ (s.exState ≠ .idle ∨ busy s = true)) ∨
    (s.cfg.role = .slave ∧ i = .wait ∧ (s.exState ≠ .idle ∨ busy s = true)) ∨
    (s.cfg.role = .slave ∧ i = .complete ∧ (s.exState ≠ .responsePending ∨ busy s = true)) →
    exec i s = .next { s with rejCause := .badState }

/-! ## The master exchange -/

/-- R120: the SEND start step. A frame that fails validation ends the exchange with its code and no request; a valid one
enters HEADER_SENT with the header write of FRAME_ID outstanding. -/
def Obligations.SendStartSendsTheHeaderOrFails : Prop :=
  ∀ s : State, s.exState = .idle → s.pend = .send →
    (∀ code, validateMaster s = some code →
      act .engine s = .next
        { s with pend := .none, txn := none, syncSeen := false, exState := .error, outcome := .failed, errCode := code }) ∧
    (validateMaster s = none →
      act .engine s = .next
        { s with
          pend := .none
          exState := .headerSent
          txn := some (.write .header
            (if s.cfg.masterWritesSync = true then [0x55#8, pid (s.frameId.extractLsb' 0 6)]
             else [pid (s.frameId.extractLsb' 0 6)])) })

/-- R121, R124, R145, R152: the answer to a write. A header write answered `Ok` leaves HEADER_SENT with no request
outstanding; a response write answered `Ok`, of a master or a slave, keeps the checksum byte sent and completes; any write
answered `IOError` fails with TransportError and leaves FRAME_CKSUM. -/
def Obligations.WriteAnswersContinueCompleteOrFail : Prop :=
  ∀ (s : State),
    (∀ b, s.exState = .headerSent → s.txn = some (.write .header b) →
      act (.answer .ok) s = .next { s with txn := none }) ∧
    (∀ (d : List Byte) (k : Byte), s.exState = .headerSent ∨ s.exState = .responsePending →
      s.txn = some (.write .response (d ++ [k])) →
      act (.answer .ok) s = .next
        { s with txn := none, frameCksum := k, exState := .complete, outcome := .completed, errCode := .none }) ∧
    (∀ b kind, (s.exState = .headerSent ∨ (s.exState = .responsePending ∧ kind = .response)) →
      s.txn = some (.write kind b) →
      act (.answer .ioError) s = .next
        { s with txn := none, syncSeen := false, exState := .error, outcome := .failed, errCode := .transportError })

/-- R122, R123, R125, R129: the response dispatch in each direction. -/
def Obligations.ResponseDispatchFollowsTheDirection : Prop :=
  ∀ s : State, s.exState = .headerSent → s.txn = none →
    (direction s = .transmit →
      act .engine s = .next { s with txn := some (.write .response
        (s.data.toList.take s.dataCount.toNat ++
          [frameCksum s.cfg (s.frameId.extractLsb' 0 6) s.variant (s.data.toList.take s.dataCount.toNat)])) }) ∧
    (∀ len, direction s = .receive len →
      act .engine s = .next { s with exState := .awaitResponse, txn := some (.read (len.toNat + 1)) }) ∧
    (direction s = .silent →
      act .engine s = .next { s with exState := .complete, outcome := .completed, errCode := .none })

/-- R126 to R128: the answer to a response read of L + 1 bytes, L from 1 to 8, of a master (identifier of FRAME_ID) and,
as R146 says, of a slave (identifier of the header). A match, L being FRAME_LEN, scatters the data, sets DATA_COUNT to L and
keeps the checksum byte, and the frame registers are then a coherent frame that transmits; a mismatch and an `IOError` keep
nothing of the bytes read; a read of the wrong length is an `IOError` (R113). -/
def Obligations.ResponseReadAnswers : Prop :=
  ∀ (s : State) (len : Nat) (id : Ident), 1 ≤ len → len ≤ 8 → s.txn = some (.read (len + 1)) →
    (s.exState = .awaitResponse ∧ id = s.frameId.extractLsb' 0 6) ∨
      (s.exState = .responsePending ∧ id = s.hdrPid.extractLsb' 0 6) →
    (s.frameLen.toNat = len → ∀ (d : List Byte) (k : Byte), d.length = len → k = frameCksum s.cfg id s.variant d →
      ∃ data' t, (∀ i : Fin 8, data'[i] = if i.val < len then d.getD i.val 0 else s.data[i]) ∧
        act (.answer (.bytes (d ++ [k]))) s = .next t ∧
        t = { s with
          txn := none, data := data', dataCount := s.frameLen, frameCksum := k
          exState := .complete, outcome := .completed, errCode := .none } ∧
        validateSlave t = none ∧ direction t = .transmit) ∧
    (∀ (d : List Byte) (k : Byte), d.length = len → k ≠ frameCksum s.cfg id s.variant d →
      act (.answer (.bytes (d ++ [k]))) s = .next
        { s with txn := none, syncSeen := false, exState := .error, outcome := .failed, errCode := .checksumMismatch }) ∧
    (∀ a, a = .ioError ∨ (∃ r : List Byte, a = .bytes r ∧ r.length ≠ len + 1) →
      act (.answer a) s = .next
        { s with txn := none, syncSeen := false, exState := .error, outcome := .failed, errCode := .transportError })

/-- R119, R130 (a): a whole master transmit whose requests are answered `Ok`. The header write and one response write are
the only requests; FRAME_CKSUM ends as the frame's checksum and every other register is as before. -/
def Obligations.AMasterTransmitRunsToCompleted : Prop :=
  ∀ s : State, s.cfg.role = .master → s.exState = .idle → busy s = false →
    validateMaster s = none → direction s = .transmit →
    ∃ t1 t2,
      actAll [.hostWrite 0x00#5 0x01#8, .engine] s = .next t1 ∧
      t1.txn = some (.write .header (headerBytes s.cfg (frameIdent s))) ∧
      actAll [.answer .ok, .engine] t1 = .next t2 ∧
      t2.txn = some (.write .response (payload s ++ [frameCksum s.cfg (frameIdent s) s.variant (payload s)])) ∧
      actAll [.answer .ok, .engine] t2 = .next
        { s with
          rejCause := .none, outcome := .completed, errCode := .none
          frameCksum := frameCksum s.cfg (frameIdent s) s.variant (payload s) }

/-- R119, R130 (b), R104: a SEND whose frame fails validation issues no request and returns to IDLE with its code. -/
def Obligations.AnInvalidSendIssuesNoRequest : Prop :=
  ∀ (s : State) (code : ErrCode), s.cfg.role = .master → s.exState = .idle → busy s = false →
    validateMaster s = some code →
    ∃ t, actAll [.hostWrite 0x00#5 0x01#8, .engine] s = .next t ∧ t.txn = none ∧ t.exState = .error ∧
      act .engine t = .next
        { s with rejCause := .none, outcome := .failed, errCode := code, syncSeen := false }

/-- R130 (d): every SEND whose Transport answers every request ends, on every run in which the engine is weakly fair and
no reset comes, whatever the host and the environment do: IDLE with BUSY = 0 and OUTCOME COMPLETED or FAILED. -/
def Obligations.EverySendThatIsAnsweredEnds : Prop :=
  ∀ (ev : Nat → Event) (r : Nat → State),
    EventRun ev r → EngineFair ev r → TransportAnswers ev r → (∀ n, ev n ≠ .reset) →
    ExchangeInv (r 0) → (r 0).pend = .send →
    ∃ n, (r n).exState = .idle ∧ busy (r n) = false ∧ ((r n).outcome = .completed ∨ (r n).outcome = .failed)

/-! ## The slave exchange -/

/-- R132, R133: the WAIT start step issues no request; a header poll then asks for one byte. -/
def Obligations.WaitStartsAndPollsOneByte : Prop :=
  ∀ s : State,
    (s.exState = .idle → s.pend = .wait →
      act .engine s = .next { s with pend := .none, syncSeen := false, exState := .awaitHeader }) ∧
    (s.exState = .awaitHeader → s.txn = none → act .engine s = .next { s with txn := some (.read 1) })

/-- R134 to R137: what each answer to a header poll does; no byte or several bytes are an `IOError` (R113). -/
def Obligations.AHeaderPollAnswerHunts : Prop :=
  ∀ (s : State) (b : Byte), s.exState = .awaitHeader → s.txn = some (.read 1) →
    (s.syncSeen = false →
      act (.answer (.bytes [b])) s = .next { s with txn := none, syncSeen := b == 0x55#8 }) ∧
    (s.syncSeen = true → pidOk b = true →
      act (.answer (.bytes [b])) s = .next
        { s with
          txn := none, syncSeen := false, hdrPid := b, frameId := (b.extractLsb' 0 6).setWidth 8
          dataCount := 0, lenValid := false, frameLen := 0
          exState := .responsePending, outcome := .headerReceived, errCode := .none }) ∧
    (s.syncSeen = true → pidOk b = false →
      act (.answer (.bytes [b])) s = .next { s with txn := none, syncSeen := false }) ∧
    (∀ a, a = .ioError ∨ (∃ r : List Byte, a = .bytes r ∧ r.length ≠ 1) → act (.answer a) s = .next
      { s with txn := none, syncSeen := false, exState := .error, outcome := .failed, errCode := .transportError })

/-- R134, R135: whatever bytes without a sync byte come first, and however many syncs are followed by a byte of wrong
parity, the hunt takes the first sync byte that is followed by a byte of correct parity. -/
def Obligations.TheHuntTakesTheFirstHeader : Prop :=
  ∀ (skipped : List (List Byte × Byte)) (noise : List Byte) (p : Byte) (s : State),
    (∀ x ∈ skipped, 0x55#8 ∉ x.1 ∧ pidOk x.2 = false) → 0x55#8 ∉ noise → pidOk p = true →
    s.exState = .awaitHeader → s.txn = none → s.syncSeen = false →
    actAll (((skipped.flatMap fun x => x.1 ++ [0x55#8, x.2]) ++ noise ++ [0x55#8, p]).flatMap
        fun b => [.engine, .answer (.bytes [b])]) s = .next
      { s with
        hdrPid := p, frameId := (p.extractLsb' 0 6).setWidth 8
        dataCount := 0, lenValid := false, frameLen := 0
        exState := .responsePending, outcome := .headerReceived, errCode := .none }

/-- R131, R138: while the core waits for a header no step makes a Transport write outstanding, and the wait's frame
registers and HDR_PID change only by the header that ends it or by a reset. -/
def Obligations.AWaitNeverWrites : Prop :=
  ∀ (e : Event) (s t : State), ListedInv s → s.exState = .awaitHeader → act e s = .next t →
    (t.txn = none ∨ t.txn = some (.read 1)) ∧
    (e ≠ .reset → t.exState ≠ .responsePending → SameFrame s t ∧ t.hdrPid = s.hdrPid)

/-- R140: the deadline is enabled in AWAIT_HEADER and ends the header hunt in IDLE with Timeout; anywhere else it is not
enabled. -/
def Obligations.TheDeadlineEndsAHeaderHunt : Prop :=
  ∀ s : State,
    (s.exState = .awaitHeader → enabled .deadline s = true ∧ act .deadline s = .next
      { s with txn := none, syncSeen := false, exState := .idle, outcome := .failed, errCode := .timeout }) ∧
    (s.exState ≠ .awaitHeader → enabled .deadline s = false ∧ act .deadline s = .next s)

/-- R142 to R144, R146: the COMPLETE start step. -/
def Obligations.CompleteStartFollowsTheDirection : Prop :=
  ∀ s : State, s.exState = .responsePending → s.pend = .complete →
    (∀ code, validateSlave s = some code → act .engine s = .next
      { s with pend := .none, txn := none, syncSeen := false, exState := .error, outcome := .failed, errCode := code }) ∧
    (validateSlave s = none → direction s = .silent → act .engine s = .next
      { s with pend := .none, exState := .idle, outcome := .silent, errCode := .none }) ∧
    (validateSlave s = none → direction s = .transmit → act .engine s = .next
      { s with
        pend := .none
        txn := some (.write .response
          (s.data.toList.take s.dataCount.toNat ++
            [frameCksum s.cfg (s.hdrPid.extractLsb' 0 6) s.variant (s.data.toList.take s.dataCount.toNat)])) }) ∧
    (∀ len, validateSlave s = none → direction s = .receive len → act .engine s = .next
      { s with pend := .none, txn := some (.read (len.toNat + 1)) })

/-- R147: in a slave exchange FRAME_ID is ignored: two states that differ in FRAME_ID alone go through the engine's and
the Transport's steps alike, and neither step writes InvalidIdentifier. -/
def Obligations.CompleteIgnoresFrameId : Prop :=
  ∀ (e : Event) (s t : State) (x : Byte), s.exState = .responsePending → e = .engine ∨ (∃ a, e = .answer a) →
    act e s = .next t →
    act e { s with frameId := x } = .next { t with frameId := x } ∧
    (t.errCode = .invalidIdentifier → s.errCode = .invalidIdentifier)

/-- R130 (e), for a master and a slave: an answer that completes a receive leaves in the DATA registers and FRAME_CKSUM
bytes whose checksum verifies, FRAME_LEN of them. -/
def Obligations.ACompletedReceiveHoldsVerifiedBytes : Prop :=
  ∀ (a : Answer) (s t : State) (n : Nat), ExchangeInv s → s.txn = some (.read n) →
    act (.answer a) s = .next t → t.exState = .complete →
    a = .bytes (payload t ++ [t.frameCksum]) ∧ (payload t).length = t.frameLen.toNat ∧ t.dataCount = t.frameLen ∧
    cksumMatch t.cfg (if s.exState = .awaitResponse then frameIdent t else hdrIdent t) t.variant
      (payload t ++ [t.frameCksum]) = true

/-- The source's round trip (R123, R124, R144, R146): the bytes a master writes for a transmit frame, read by a slave that
received the same identifier, declared the same length and uses the same variant and identifier form, verify there and
deliver the same payload and checksum. -/
def Obligations.WhatAMasterSendsASlaveReceives : Prop :=
  ∀ m sl : State,
    m.cfg.role = .master → m.exState = .idle → busy m = false → validateMaster m = none → direction m = .transmit →
    sl.cfg.role = .slave → sl.exState = .responsePending → busy sl = false → validateSlave sl = none →
    direction sl = .receive m.dataCount → hdrIdent sl = frameIdent m → sl.variant = m.variant →
    sl.cfg.enhIdForm = m.cfg.enhIdForm →
    ∃ m' b sl',
      actAll [.hostWrite 0x00#5 0x01#8, .engine, .answer .ok, .engine] m = .next m' ∧
      m'.txn = some (.write .response b) ∧
      actAll [.hostWrite 0x00#5 0x03#8, .engine, .answer (.bytes b), .engine] sl = .next sl' ∧
      sl'.exState = .idle ∧ busy sl' = false ∧ sl'.outcome = .completed ∧
      payload sl' = payload m ∧ b.getLast? = some sl'.frameCksum

/-! ## Errors -/

/-- R115: the terminal step returns COMPLETE and ERROR to IDLE and changes nothing else. -/
def Obligations.TheTerminalStepReturnsToIdle : Prop :=
  ∀ s : State, s.exState = .complete ∨ s.exState = .error → act .engine s = .next { s with exState := .idle }

/-- R149 to R152, R154 to R156: the only ways a step writes an error code: each code has its cause. -/
def Obligations.EachErrorCodeHasItsCause : Prop :=
  ∀ (e : Event) (s t : State), act e s = .next t → t.errCode ≠ s.errCode →
    match t.errCode with
    | .none => True
    | .invalidIdentifier => e = .engine ∧ s.pend = .send ∧ s.frameId.toNat > 63
    | .payloadTooLarge => e = .engine ∧ (s.pend = .send ∨ s.pend = .complete) ∧
        (s.dataCount.toNat > 8 ∨ (s.lenValid = true ∧ s.frameLen.toNat > 8))
    | .checksumMismatch => ∃ r id, e = .answer (.bytes r) ∧ s.txn = some (.read r.length) ∧
        ((s.exState = .awaitResponse ∧ id = frameIdent s) ∨ (s.exState = .responsePending ∧ id = hdrIdent s)) ∧
        cksumMatch s.cfg id s.variant r = false
    | .transportError => ∃ a q, e = .answer a ∧ s.txn = some q ∧
        (a = .ioError ∨ ∃ r n, a = .bytes r ∧ q = .read n ∧ r.length ≠ n)
    | .timeout => e = .deadline ∧ s.exState = .awaitHeader ∧ t.exState = .idle
    | .protocolStateError => False
    | .frameIncoherent => e = .engine ∧ (s.pend = .send ∨ s.pend = .complete) ∧ s.lenValid = true ∧
        (s.frameLen.toNat = 0 ∨ (1 ≤ s.dataCount.toNat ∧ s.frameLen ≠ s.dataCount))

/-- R153, R160: a step that enters ERROR records the failure and changes no register but STATE, OUTCOME and ERR_CODE. -/
def Obligations.AFailureKeepsTheRegisters : Prop :=
  ∀ (e : Event) (s t : State), s.exState ≠ .error → act e s = .next t → t.exState = .error →
    t.outcome = .failed ∧ t.errCode ≠ .none ∧ t.txn = none ∧ t.syncSeen = false ∧
    SameFrame s t ∧ t.hdrPid = s.hdrPid ∧ t.frameCksum = s.frameCksum ∧ t.rejCause = s.rejCause ∧ t.cfg = s.cfg

/-- R161: failures do not nest. In ERROR no event but a reset changes the outcome or its code, and STATE stays ERROR or
goes to IDLE. -/
def Obligations.FailuresDoNotNest : Prop :=
  ∀ (e : Event) (s t : State), ListedInv s → s.exState = .error → e ≠ .reset → act e s = .next t →
    t.outcome = s.outcome ∧ t.errCode = s.errCode ∧ t.pend = .none ∧ t.txn = none ∧
    (t.exState = .error ∨ (e = .engine ∧ t.exState = .idle))

/-- R32, R33: HDR_PID changes only by a header that is found or by a reset; FRAME_CKSUM only in an answer step that
completes an exchange with a response, or by a reset. -/
def Obligations.HdrPidAndFrameCksumHaveOneWriter : Prop :=
  ∀ (e : Event) (s t : State), act e s = .next t → e ≠ .reset →
    (t.hdrPid ≠ s.hdrPid → ∃ b, e = .answer (.bytes [b]) ∧ s.exState = .awaitHeader ∧ s.syncSeen = true ∧
      pidOk b = true ∧ t.hdrPid = b ∧ t.exState = .responsePending ∧ t.outcome = .headerReceived) ∧
    (t.frameCksum ≠ s.frameCksum → (∃ a, e = .answer a) ∧ t.exState = .complete ∧ t.outcome = .completed)

/-- R117: a slave exchange that waits for the host's decision leaves RESPONSE_PENDING only by a COMPLETE (its start step
or the answer to its request) or by a reset. -/
def Obligations.OnlyCompleteOrResetLeavesResponsePending : Prop :=
  ∀ (e : Event) (s t : State), s.exState = .responsePending → act e s = .next t → t.exState ≠ .responsePending →
    e = .reset ∨ (e = .engine ∧ s.pend = .complete) ∨ (∃ a, e = .answer a ∧ s.txn ≠ none)

/-- R114: an unanswered request outside the header hunt hangs the core: whatever events come, as long as none is an answer
or a reset, STATE and the outstanding request stay as they are. -/
def Obligations.AnUnansweredRequestHangs : Prop :=
  ∀ (es : List Event) (s : State), ListedInv s → s.txn ≠ none → s.exState ≠ .awaitHeader →
    (∀ e ∈ es, e ≠ .reset ∧ ∀ a, e ≠ .answer a) →
    ∃ t, actAll es s = .next t ∧ t.exState = s.exState ∧ t.txn = s.txn ∧ t.pend = s.pend

/-! ## Reset -/

/-- R43, R167: the state after reset of an instance with parameters c, as the host reads it, and its hidden state. -/
def Obligations.ResetLeavesTheResetValues : Prop :=
  ∀ c : Config,
    let s := State.resetOf c
    s.exState = .idle ∧ s.rejCause = .none ∧ s.outcome = .none ∧ s.errCode = .none ∧
    s.frameId = 0 ∧ s.dataCount = 0 ∧ s.lenValid = false ∧ s.variant = .classic ∧ s.frameLen = 0 ∧
    (∀ i : Fin 8, s.data[i] = 0) ∧ s.hdrPid = 0 ∧ s.frameCksum = 0 ∧
    s.pend = .none ∧ s.syncSeen = false ∧ s.txn = none ∧ s.cfg = c ∧
    busy s = false ∧ readReg (regAt 0x06) s = 0x80#8 ∧ readReg (regAt 0x07) s = 0xFF#8

/-- R166: the reset event is enabled in every state and puts every piece of core state to its reset value; an outstanding
request is abandoned, so no answer is enabled; the parameters stay (R167). That what is not the core's stays is the model's
own (log entry 7, DEDUCED). -/
def Obligations.AResetEventResetsTheWholeCore : Prop :=
  ∀ s : State, enabled .reset s = true ∧ act .reset s = .next
    { State.resetOf s.cfg with inputs := s.inputs, hostProg := s.hostProg, readOut := s.readOut, drawn := s.drawn } ∧
    ∀ a t, act .reset s = .next t → enabled (.answer a) t = false

/-! ## Whole-machine invariants -/

/-- R40: no step writes the parameters. -/
def Obligations.NoStepWritesTheParameters : Prop :=
  ∀ s t : State, step s = .next t → t.cfg = s.cfg

/-- R42 and the exchange invariant hold after reset (R43). -/
def Obligations.TheInvariantsHoldAfterReset : Prop :=
  ∀ c : Config, ListedInv (State.resetOf c) ∧ ExchangeInv (State.resetOf c)

/-- R42: every step keeps the invariants (a) to (f) that the rule lists, and a state that meets them is never stopped: the
step answers a next state. -/
def Obligations.EveryStepGoesOnAndKeepsTheListedInvariants : Prop :=
  ∀ s : State, ListedInv s → ∃ t, step s = .next t ∧ ListedInv t

/-- Every step keeps the exchange invariant: roles, the validated and locked frame, the request outstanding, the header
held, the outcome (derived from the step rules of 43_commands.md to 45_slave.md). -/
def Obligations.EveryStepKeepsTheExchangeInvariant : Prop :=
  ∀ s t : State, ExchangeInv s → step s = .next t → ExchangeInv t

/-- R38, R75, R76: the outstanding request is a write of 1 to 9 bytes or a read of 1 to 9 bytes. -/
def Obligations.OutstandingRequestsAreInBounds : Prop :=
  ∀ (s : State) (q : Request), ExchangeInv s → s.txn = some q → q.wellFormed = true

/-- R179: the quiescent states are exactly IDLE and RESPONSE_PENDING with nothing pending and nothing outstanding. -/
def Obligations.TheQuiescentStates : Prop :=
  ∀ s : State, ExchangeInv s →
    (Quiescent s ↔ (s.exState = .idle ∨ s.exState = .responsePending) ∧ s.pend = .none ∧ s.txn = none)
end

