-- ==== Sys2Proof/Laws/Checksum.lean ====
section
/-! SUPPORT. The accumulator and what the checksum depends on (41_checksum.md R88, R91, R93). -/

namespace Sys2Proof.Machine

theorem accStep_le (a : Nat) (b : Byte) (h : a ≤ 255) : accStep a b ≤ 255 := by
  have := b.isLt
  unfold accStep
  split <;> omega

theorem accSum_append_byte (s : List Byte) (b : Byte) : accSum (s ++ [b]) = accStep (accSum s) b := by
  simp [accSum]

/-- Of the parameters, the checksum depends on ENH_ID_FORM alone. -/
theorem frameCksum_congr {c c' : Config} (h : c.enhIdForm = c'.enhIdForm) (id : Ident) (v : Variant) (d : List Byte) :
    frameCksum c id v d = frameCksum c' id v d := by
  simp [frameCksum, enhancedInput, idByte, h]

end Sys2Proof.Machine
end

