-- ==== Sys2Proof/Laws/Decode.lean ====
section
/-! SUPPORT. The decoder and the encoder on one byte (30_encoding.md R62 to R64). -/

namespace Sys2Proof

@[simp] theorem decodeByte_encodeByte (i : Instr) : decodeByte (encodeByte i) = .ok i := by cases i <;> rfl

theorem decodeByte_ok_iff (c : Byte) (i : Instr) : decodeByte c = .ok i ↔ c = encodeByte i := by
  constructor
  · intro h
    unfold decodeByte at h
    repeat' split at h
    all_goals first | (cases h; assumption) | cases h
  · rintro rfl; simp

theorem encodeByte_injective (i j : Instr) (h : encodeByte i = encodeByte j) : i = j := by
  have := decodeByte_encodeByte i
  rw [h, decodeByte_encodeByte] at this
  exact (Except.ok.inj this).symm

theorem decodeByte_reserved (c : Byte) (h : 5 ≤ c.toNat) : decodeByte c = .error (.reservedByte c) := by
  unfold decodeByte
  repeat' split
  all_goals first | rfl | (subst_vars; simp at h)

end Sys2Proof
end

