-- ==== Sys2Proof/Laws/Flags.lean ====
section
/-! SUPPORT. When BUSY is 0, and which updates leave it (10_state.md R41). -/

namespace Sys2Proof.Machine

theorem busy_eq_false_iff (s : State) :
    busy s = false ↔
      s.pend = .none ∧ s.txn = none ∧ s.exState ≠ .headerSent ∧ s.exState ≠ .awaitResponse ∧ s.exState ≠ .awaitHeader := by
  unfold busy
  cases s.exState <;> simp [busyState]

theorem busy_of_pend (s : State) (h : s.pend ≠ .none) : busy s = true := by simp [busy, h]

theorem busy_of_txn (s : State) (h : s.txn ≠ none) : busy s = true := by
  cases ht : s.txn <;> simp_all [busy]

theorem busy_congr {s t : State} (h1 : t.pend = s.pend) (h2 : t.txn = s.txn) (h3 : t.exState = s.exState) :
    busy t = busy s := by simp [busy, h1, h2, h3]

end Sys2Proof.Machine
end

