-- ==== Sys2Proof/Laws/Operands.lean ====
section
/-! SUPPORT. The operands read from the frame registers, and the payload scatter (30_encoding.md R75, 44_master.md R127). -/

namespace Sys2Proof.Machine

theorem idOf_eq_extract (b : Byte) : b.extractLsb' 0 6 = idOf b := by
  revert b; decide

theorem idOf_pid (id : Ident) : idOf (pid id) = id := by
  revert id; decide

theorem payload_length (s : State) : (payload s).length = min s.dataCount.toNat 8 := by simp [payload]

theorem responseBytes_length (id : Ident) (s : State) : (responseBytes id s).length = min s.dataCount.toNat 8 + 1 := by
  simp [responseBytes, payload_length]

theorem scatterFrom_get (bytes : List Byte) : ∀ (k : Nat) (d : Vector Byte 8) (i : Fin 8),
    (scatterFrom k bytes d)[i] =
      if k ≤ i.val ∧ i.val < k + bytes.length then bytes.getD (i.val - k) 0 else d[i] := by
  induction bytes with
  | nil => intro k d i; simp [scatterFrom]
  | cons b bs ih =>
    intro k d i
    simp only [scatterFrom, ih, List.length_cons]
    by_cases h1 : k = i.val
    · subst h1; simp
    · have h2 : (d.setIfInBounds k b)[i] = d[i] := by
        show (d.setIfInBounds k b)[i.val] = d[i.val]
        rw [Vector.getElem_setIfInBounds_ne]; exact h1
      rw [h2]
      by_cases h3 : k + 1 ≤ i.val ∧ i.val < k + 1 + bs.length
      · rw [if_pos h3, if_pos (by omega)]
        obtain ⟨m, hm⟩ : ∃ m, i.val - k = m + 1 := ⟨i.val - k - 1, by omega⟩
        rw [hm, List.getD_cons_succ]; congr 1; omega
      · rw [if_neg h3, if_neg (by omega)]

/-- What each DATA register holds after the scatter. -/
theorem scatter_get (bytes : List Byte) (d : Vector Byte 8) (i : Fin 8) :
    (scatter bytes d)[i] = if i.val < bytes.length then bytes.getD i.val 0 else d[i] := by
  unfold scatter; rw [scatterFrom_get]; simp

/-- The bytes scattered are the first DATA registers. -/
theorem take_scatter (bytes : List Byte) (d : Vector Byte 8) (h : bytes.length ≤ 8) :
    (scatter bytes d).toList.take bytes.length = bytes := by
  apply List.ext_getElem
  · simp [h]
  · intro i h1 h2
    have := scatter_get bytes d ⟨i, by omega⟩
    simp [h2] at this
    simp [this]

end Sys2Proof.Machine
end

