-- ==== Sys2Proof/Laws/State.lean ====
section
/-! SUPPORT. For each shared operation that updates State, what each field holds after it: one lemma per field per update,
so that no proof unfolds a record update. -/

namespace Sys2Proof.Machine

/-! ### reject (R107) -/

@[simp] theorem reject_cfg (c : RejCause) (s : State) : (reject c s).cfg = s.cfg := rfl
@[simp] theorem reject_exState (c : RejCause) (s : State) : (reject c s).exState = s.exState := rfl
@[simp] theorem reject_rejCause (c : RejCause) (s : State) : (reject c s).rejCause = c := rfl
@[simp] theorem reject_outcome (c : RejCause) (s : State) : (reject c s).outcome = s.outcome := rfl
@[simp] theorem reject_errCode (c : RejCause) (s : State) : (reject c s).errCode = s.errCode := rfl
@[simp] theorem reject_frameId (c : RejCause) (s : State) : (reject c s).frameId = s.frameId := rfl
@[simp] theorem reject_dataCount (c : RejCause) (s : State) : (reject c s).dataCount = s.dataCount := rfl
@[simp] theorem reject_lenValid (c : RejCause) (s : State) : (reject c s).lenValid = s.lenValid := rfl
@[simp] theorem reject_variant (c : RejCause) (s : State) : (reject c s).variant = s.variant := rfl
@[simp] theorem reject_frameLen (c : RejCause) (s : State) : (reject c s).frameLen = s.frameLen := rfl
@[simp] theorem reject_data (c : RejCause) (s : State) : (reject c s).data = s.data := rfl
@[simp] theorem reject_hdrPid (c : RejCause) (s : State) : (reject c s).hdrPid = s.hdrPid := rfl
@[simp] theorem reject_frameCksum (c : RejCause) (s : State) : (reject c s).frameCksum = s.frameCksum := rfl
@[simp] theorem reject_pend (c : RejCause) (s : State) : (reject c s).pend = s.pend := rfl
@[simp] theorem reject_syncSeen (c : RejCause) (s : State) : (reject c s).syncSeen = s.syncSeen := rfl
@[simp] theorem reject_txn (c : RejCause) (s : State) : (reject c s).txn = s.txn := rfl
@[simp] theorem reject_inputs (c : RejCause) (s : State) : (reject c s).inputs = s.inputs := rfl
@[simp] theorem reject_hostProg (c : RejCause) (s : State) : (reject c s).hostProg = s.hostProg := rfl
@[simp] theorem reject_readOut (c : RejCause) (s : State) : (reject c s).readOut = s.readOut := rfl
@[simp] theorem reject_drawn (c : RejCause) (s : State) : (reject c s).drawn = s.drawn := rfl

/-! ### accept (R108) -/

@[simp] theorem accept_cfg (c : Pend) (s : State) : (accept c s).cfg = s.cfg := rfl
@[simp] theorem accept_exState (c : Pend) (s : State) : (accept c s).exState = s.exState := rfl
@[simp] theorem accept_rejCause (c : Pend) (s : State) : (accept c s).rejCause = .none := rfl
@[simp] theorem accept_outcome (c : Pend) (s : State) : (accept c s).outcome = .none := rfl
@[simp] theorem accept_errCode (c : Pend) (s : State) : (accept c s).errCode = .none := rfl
@[simp] theorem accept_frameId (c : Pend) (s : State) : (accept c s).frameId = s.frameId := rfl
@[simp] theorem accept_dataCount (c : Pend) (s : State) : (accept c s).dataCount = s.dataCount := rfl
@[simp] theorem accept_lenValid (c : Pend) (s : State) : (accept c s).lenValid = s.lenValid := rfl
@[simp] theorem accept_variant (c : Pend) (s : State) : (accept c s).variant = s.variant := rfl
@[simp] theorem accept_frameLen (c : Pend) (s : State) : (accept c s).frameLen = s.frameLen := rfl
@[simp] theorem accept_data (c : Pend) (s : State) : (accept c s).data = s.data := rfl
@[simp] theorem accept_hdrPid (c : Pend) (s : State) : (accept c s).hdrPid = s.hdrPid := rfl
@[simp] theorem accept_frameCksum (c : Pend) (s : State) : (accept c s).frameCksum = s.frameCksum := rfl
@[simp] theorem accept_pend (c : Pend) (s : State) : (accept c s).pend = c := rfl
@[simp] theorem accept_syncSeen (c : Pend) (s : State) : (accept c s).syncSeen = s.syncSeen := rfl
@[simp] theorem accept_txn (c : Pend) (s : State) : (accept c s).txn = s.txn := rfl
@[simp] theorem accept_inputs (c : Pend) (s : State) : (accept c s).inputs = s.inputs := rfl
@[simp] theorem accept_hostProg (c : Pend) (s : State) : (accept c s).hostProg = s.hostProg := rfl
@[simp] theorem accept_readOut (c : Pend) (s : State) : (accept c s).readOut = s.readOut := rfl
@[simp] theorem accept_drawn (c : Pend) (s : State) : (accept c s).drawn = s.drawn := rfl

/-! ### fail (R153) -/

@[simp] theorem fail_cfg (c : ErrCode) (s : State) : (fail c s).cfg = s.cfg := rfl
@[simp] theorem fail_exState (c : ErrCode) (s : State) : (fail c s).exState = .error := rfl
@[simp] theorem fail_rejCause (c : ErrCode) (s : State) : (fail c s).rejCause = s.rejCause := rfl
@[simp] theorem fail_outcome (c : ErrCode) (s : State) : (fail c s).outcome = .failed := rfl
@[simp] theorem fail_errCode (c : ErrCode) (s : State) : (fail c s).errCode = c := rfl
@[simp] theorem fail_frameId (c : ErrCode) (s : State) : (fail c s).frameId = s.frameId := rfl
@[simp] theorem fail_dataCount (c : ErrCode) (s : State) : (fail c s).dataCount = s.dataCount := rfl
@[simp] theorem fail_lenValid (c : ErrCode) (s : State) : (fail c s).lenValid = s.lenValid := rfl
@[simp] theorem fail_variant (c : ErrCode) (s : State) : (fail c s).variant = s.variant := rfl
@[simp] theorem fail_frameLen (c : ErrCode) (s : State) : (fail c s).frameLen = s.frameLen := rfl
@[simp] theorem fail_data (c : ErrCode) (s : State) : (fail c s).data = s.data := rfl
@[simp] theorem fail_hdrPid (c : ErrCode) (s : State) : (fail c s).hdrPid = s.hdrPid := rfl
@[simp] theorem fail_frameCksum (c : ErrCode) (s : State) : (fail c s).frameCksum = s.frameCksum := rfl
@[simp] theorem fail_pend (c : ErrCode) (s : State) : (fail c s).pend = s.pend := rfl
@[simp] theorem fail_syncSeen (c : ErrCode) (s : State) : (fail c s).syncSeen = false := rfl
@[simp] theorem fail_txn (c : ErrCode) (s : State) : (fail c s).txn = none := rfl
@[simp] theorem fail_inputs (c : ErrCode) (s : State) : (fail c s).inputs = s.inputs := rfl
@[simp] theorem fail_hostProg (c : ErrCode) (s : State) : (fail c s).hostProg = s.hostProg := rfl
@[simp] theorem fail_readOut (c : ErrCode) (s : State) : (fail c s).readOut = s.readOut := rfl
@[simp] theorem fail_drawn (c : ErrCode) (s : State) : (fail c s).drawn = s.drawn := rfl

/-! ### completed (R124, R127, R129) -/

@[simp] theorem completed_cfg (s : State) : (completed s).cfg = s.cfg := rfl
@[simp] theorem completed_exState (s : State) : (completed s).exState = .complete := rfl
@[simp] theorem completed_rejCause (s : State) : (completed s).rejCause = s.rejCause := rfl
@[simp] theorem completed_outcome (s : State) : (completed s).outcome = .completed := rfl
@[simp] theorem completed_errCode (s : State) : (completed s).errCode = .none := rfl
@[simp] theorem completed_frameId (s : State) : (completed s).frameId = s.frameId := rfl
@[simp] theorem completed_dataCount (s : State) : (completed s).dataCount = s.dataCount := rfl
@[simp] theorem completed_lenValid (s : State) : (completed s).lenValid = s.lenValid := rfl
@[simp] theorem completed_variant (s : State) : (completed s).variant = s.variant := rfl
@[simp] theorem completed_frameLen (s : State) : (completed s).frameLen = s.frameLen := rfl
@[simp] theorem completed_data (s : State) : (completed s).data = s.data := rfl
@[simp] theorem completed_hdrPid (s : State) : (completed s).hdrPid = s.hdrPid := rfl
@[simp] theorem completed_frameCksum (s : State) : (completed s).frameCksum = s.frameCksum := rfl
@[simp] theorem completed_pend (s : State) : (completed s).pend = s.pend := rfl
@[simp] theorem completed_syncSeen (s : State) : (completed s).syncSeen = s.syncSeen := rfl
@[simp] theorem completed_txn (s : State) : (completed s).txn = s.txn := rfl
@[simp] theorem completed_inputs (s : State) : (completed s).inputs = s.inputs := rfl
@[simp] theorem completed_hostProg (s : State) : (completed s).hostProg = s.hostProg := rfl
@[simp] theorem completed_readOut (s : State) : (completed s).readOut = s.readOut := rfl
@[simp] theorem completed_drawn (s : State) : (completed s).drawn = s.drawn := rfl

/-! ### terminalStep (R115) -/

@[simp] theorem terminalStep_cfg (s : State) : (terminalStep s).cfg = s.cfg := rfl
@[simp] theorem terminalStep_exState (s : State) : (terminalStep s).exState = .idle := rfl
@[simp] theorem terminalStep_rejCause (s : State) : (terminalStep s).rejCause = s.rejCause := rfl
@[simp] theorem terminalStep_outcome (s : State) : (terminalStep s).outcome = s.outcome := rfl
@[simp] theorem terminalStep_errCode (s : State) : (terminalStep s).errCode = s.errCode := rfl
@[simp] theorem terminalStep_frameId (s : State) : (terminalStep s).frameId = s.frameId := rfl
@[simp] theorem terminalStep_dataCount (s : State) : (terminalStep s).dataCount = s.dataCount := rfl
@[simp] theorem terminalStep_lenValid (s : State) : (terminalStep s).lenValid = s.lenValid := rfl
@[simp] theorem terminalStep_variant (s : State) : (terminalStep s).variant = s.variant := rfl
@[simp] theorem terminalStep_frameLen (s : State) : (terminalStep s).frameLen = s.frameLen := rfl
@[simp] theorem terminalStep_data (s : State) : (terminalStep s).data = s.data := rfl
@[simp] theorem terminalStep_hdrPid (s : State) : (terminalStep s).hdrPid = s.hdrPid := rfl
@[simp] theorem terminalStep_frameCksum (s : State) : (terminalStep s).frameCksum = s.frameCksum := rfl
@[simp] theorem terminalStep_pend (s : State) : (terminalStep s).pend = s.pend := rfl
@[simp] theorem terminalStep_syncSeen (s : State) : (terminalStep s).syncSeen = s.syncSeen := rfl
@[simp] theorem terminalStep_txn (s : State) : (terminalStep s).txn = s.txn := rfl
@[simp] theorem terminalStep_inputs (s : State) : (terminalStep s).inputs = s.inputs := rfl
@[simp] theorem terminalStep_hostProg (s : State) : (terminalStep s).hostProg = s.hostProg := rfl
@[simp] theorem terminalStep_readOut (s : State) : (terminalStep s).readOut = s.readOut := rfl
@[simp] theorem terminalStep_drawn (s : State) : (terminalStep s).drawn = s.drawn := rfl

/-! ### endWait (R116, R140) -/

@[simp] theorem endWait_cfg (o : ExOutcome) (c : ErrCode) (s : State) : (endWait o c s).cfg = s.cfg := rfl
@[simp] theorem endWait_exState (o : ExOutcome) (c : ErrCode) (s : State) : (endWait o c s).exState = .idle := rfl
@[simp] theorem endWait_rejCause (o : ExOutcome) (c : ErrCode) (s : State) : (endWait o c s).rejCause = s.rejCause := rfl
@[simp] theorem endWait_outcome (o : ExOutcome) (c : ErrCode) (s : State) : (endWait o c s).outcome = o := rfl
@[simp] theorem endWait_errCode (o : ExOutcome) (c : ErrCode) (s : State) : (endWait o c s).errCode = c := rfl
@[simp] theorem endWait_frameId (o : ExOutcome) (c : ErrCode) (s : State) : (endWait o c s).frameId = s.frameId := rfl
@[simp] theorem endWait_dataCount (o : ExOutcome) (c : ErrCode) (s : State) : (endWait o c s).dataCount = s.dataCount := rfl
@[simp] theorem endWait_lenValid (o : ExOutcome) (c : ErrCode) (s : State) : (endWait o c s).lenValid = s.lenValid := rfl
@[simp] theorem endWait_variant (o : ExOutcome) (c : ErrCode) (s : State) : (endWait o c s).variant = s.variant := rfl
@[simp] theorem endWait_frameLen (o : ExOutcome) (c : ErrCode) (s : State) : (endWait o c s).frameLen = s.frameLen := rfl
@[simp] theorem endWait_data (o : ExOutcome) (c : ErrCode) (s : State) : (endWait o c s).data = s.data := rfl
@[simp] theorem endWait_hdrPid (o : ExOutcome) (c : ErrCode) (s : State) : (endWait o c s).hdrPid = s.hdrPid := rfl
@[simp] theorem endWait_frameCksum (o : ExOutcome) (c : ErrCode) (s : State) : (endWait o c s).frameCksum = s.frameCksum := rfl
@[simp] theorem endWait_pend (o : ExOutcome) (c : ErrCode) (s : State) : (endWait o c s).pend = s.pend := rfl
@[simp] theorem endWait_syncSeen (o : ExOutcome) (c : ErrCode) (s : State) : (endWait o c s).syncSeen = false := rfl
@[simp] theorem endWait_txn (o : ExOutcome) (c : ErrCode) (s : State) : (endWait o c s).txn = none := rfl
@[simp] theorem endWait_inputs (o : ExOutcome) (c : ErrCode) (s : State) : (endWait o c s).inputs = s.inputs := rfl
@[simp] theorem endWait_hostProg (o : ExOutcome) (c : ErrCode) (s : State) : (endWait o c s).hostProg = s.hostProg := rfl
@[simp] theorem endWait_readOut (o : ExOutcome) (c : ErrCode) (s : State) : (endWait o c s).readOut = s.readOut := rfl
@[simp] theorem endWait_drawn (o : ExOutcome) (c : ErrCode) (s : State) : (endWait o c s).drawn = s.drawn := rfl

/-! ### issue (R38) -/

@[simp] theorem issue_cfg (r : Request) (s : State) : (issue r s).cfg = s.cfg := rfl
@[simp] theorem issue_exState (r : Request) (s : State) : (issue r s).exState = s.exState := rfl
@[simp] theorem issue_rejCause (r : Request) (s : State) : (issue r s).rejCause = s.rejCause := rfl
@[simp] theorem issue_outcome (r : Request) (s : State) : (issue r s).outcome = s.outcome := rfl
@[simp] theorem issue_errCode (r : Request) (s : State) : (issue r s).errCode = s.errCode := rfl
@[simp] theorem issue_frameId (r : Request) (s : State) : (issue r s).frameId = s.frameId := rfl
@[simp] theorem issue_dataCount (r : Request) (s : State) : (issue r s).dataCount = s.dataCount := rfl
@[simp] theorem issue_lenValid (r : Request) (s : State) : (issue r s).lenValid = s.lenValid := rfl
@[simp] theorem issue_variant (r : Request) (s : State) : (issue r s).variant = s.variant := rfl
@[simp] theorem issue_frameLen (r : Request) (s : State) : (issue r s).frameLen = s.frameLen := rfl
@[simp] theorem issue_data (r : Request) (s : State) : (issue r s).data = s.data := rfl
@[simp] theorem issue_hdrPid (r : Request) (s : State) : (issue r s).hdrPid = s.hdrPid := rfl
@[simp] theorem issue_frameCksum (r : Request) (s : State) : (issue r s).frameCksum = s.frameCksum := rfl
@[simp] theorem issue_pend (r : Request) (s : State) : (issue r s).pend = s.pend := rfl
@[simp] theorem issue_syncSeen (r : Request) (s : State) : (issue r s).syncSeen = s.syncSeen := rfl
@[simp] theorem issue_txn (r : Request) (s : State) : (issue r s).txn = some r := rfl
@[simp] theorem issue_inputs (r : Request) (s : State) : (issue r s).inputs = s.inputs := rfl
@[simp] theorem issue_hostProg (r : Request) (s : State) : (issue r s).hostProg = s.hostProg := rfl
@[simp] theorem issue_readOut (r : Request) (s : State) : (issue r s).readOut = s.readOut := rfl
@[simp] theorem issue_drawn (r : Request) (s : State) : (issue r s).drawn = s.drawn := rfl

/-! ### waitStart (R132) -/

@[simp] theorem waitStart_cfg (s : State) : (waitStart s).cfg = s.cfg := rfl
@[simp] theorem waitStart_exState (s : State) : (waitStart s).exState = .awaitHeader := rfl
@[simp] theorem waitStart_rejCause (s : State) : (waitStart s).rejCause = s.rejCause := rfl
@[simp] theorem waitStart_outcome (s : State) : (waitStart s).outcome = s.outcome := rfl
@[simp] theorem waitStart_errCode (s : State) : (waitStart s).errCode = s.errCode := rfl
@[simp] theorem waitStart_frameId (s : State) : (waitStart s).frameId = s.frameId := rfl
@[simp] theorem waitStart_dataCount (s : State) : (waitStart s).dataCount = s.dataCount := rfl
@[simp] theorem waitStart_lenValid (s : State) : (waitStart s).lenValid = s.lenValid := rfl
@[simp] theorem waitStart_variant (s : State) : (waitStart s).variant = s.variant := rfl
@[simp] theorem waitStart_frameLen (s : State) : (waitStart s).frameLen = s.frameLen := rfl
@[simp] theorem waitStart_data (s : State) : (waitStart s).data = s.data := rfl
@[simp] theorem waitStart_hdrPid (s : State) : (waitStart s).hdrPid = s.hdrPid := rfl
@[simp] theorem waitStart_frameCksum (s : State) : (waitStart s).frameCksum = s.frameCksum := rfl
@[simp] theorem waitStart_pend (s : State) : (waitStart s).pend = .none := rfl
@[simp] theorem waitStart_syncSeen (s : State) : (waitStart s).syncSeen = false := rfl
@[simp] theorem waitStart_txn (s : State) : (waitStart s).txn = s.txn := rfl
@[simp] theorem waitStart_inputs (s : State) : (waitStart s).inputs = s.inputs := rfl
@[simp] theorem waitStart_hostProg (s : State) : (waitStart s).hostProg = s.hostProg := rfl
@[simp] theorem waitStart_readOut (s : State) : (waitStart s).readOut = s.readOut := rfl
@[simp] theorem waitStart_drawn (s : State) : (waitStart s).drawn = s.drawn := rfl

/-! ### headerFound (R135) -/

@[simp] theorem headerFound_cfg (b : Byte) (s : State) : (headerFound b s).cfg = s.cfg := rfl
@[simp] theorem headerFound_exState (b : Byte) (s : State) : (headerFound b s).exState = .responsePending := rfl
@[simp] theorem headerFound_rejCause (b : Byte) (s : State) : (headerFound b s).rejCause = s.rejCause := rfl
@[simp] theorem headerFound_outcome (b : Byte) (s : State) : (headerFound b s).outcome = .headerReceived := rfl
@[simp] theorem headerFound_errCode (b : Byte) (s : State) : (headerFound b s).errCode = .none := rfl
@[simp] theorem headerFound_frameId (b : Byte) (s : State) : (headerFound b s).frameId = (idOf b).setWidth 8 := rfl
@[simp] theorem headerFound_dataCount (b : Byte) (s : State) : (headerFound b s).dataCount = 0 := rfl
@[simp] theorem headerFound_lenValid (b : Byte) (s : State) : (headerFound b s).lenValid = false := rfl
@[simp] theorem headerFound_variant (b : Byte) (s : State) : (headerFound b s).variant = s.variant := rfl
@[simp] theorem headerFound_frameLen (b : Byte) (s : State) : (headerFound b s).frameLen = 0 := rfl
@[simp] theorem headerFound_data (b : Byte) (s : State) : (headerFound b s).data = s.data := rfl
@[simp] theorem headerFound_hdrPid (b : Byte) (s : State) : (headerFound b s).hdrPid = b := rfl
@[simp] theorem headerFound_frameCksum (b : Byte) (s : State) : (headerFound b s).frameCksum = s.frameCksum := rfl
@[simp] theorem headerFound_pend (b : Byte) (s : State) : (headerFound b s).pend = s.pend := rfl
@[simp] theorem headerFound_syncSeen (b : Byte) (s : State) : (headerFound b s).syncSeen = false := rfl
@[simp] theorem headerFound_txn (b : Byte) (s : State) : (headerFound b s).txn = s.txn := rfl
@[simp] theorem headerFound_inputs (b : Byte) (s : State) : (headerFound b s).inputs = s.inputs := rfl
@[simp] theorem headerFound_hostProg (b : Byte) (s : State) : (headerFound b s).hostProg = s.hostProg := rfl
@[simp] theorem headerFound_readOut (b : Byte) (s : State) : (headerFound b s).readOut = s.readOut := rfl
@[simp] theorem headerFound_drawn (b : Byte) (s : State) : (headerFound b s).drawn = s.drawn := rfl

/-! ### slaveSilent (R143) -/

@[simp] theorem slaveSilent_cfg (s : State) : (slaveSilent s).cfg = s.cfg := rfl
@[simp] theorem slaveSilent_exState (s : State) : (slaveSilent s).exState = .idle := rfl
@[simp] theorem slaveSilent_rejCause (s : State) : (slaveSilent s).rejCause = s.rejCause := rfl
@[simp] theorem slaveSilent_outcome (s : State) : (slaveSilent s).outcome = .silent := rfl
@[simp] theorem slaveSilent_errCode (s : State) : (slaveSilent s).errCode = .none := rfl
@[simp] theorem slaveSilent_frameId (s : State) : (slaveSilent s).frameId = s.frameId := rfl
@[simp] theorem slaveSilent_dataCount (s : State) : (slaveSilent s).dataCount = s.dataCount := rfl
@[simp] theorem slaveSilent_lenValid (s : State) : (slaveSilent s).lenValid = s.lenValid := rfl
@[simp] theorem slaveSilent_variant (s : State) : (slaveSilent s).variant = s.variant := rfl
@[simp] theorem slaveSilent_frameLen (s : State) : (slaveSilent s).frameLen = s.frameLen := rfl
@[simp] theorem slaveSilent_data (s : State) : (slaveSilent s).data = s.data := rfl
@[simp] theorem slaveSilent_hdrPid (s : State) : (slaveSilent s).hdrPid = s.hdrPid := rfl
@[simp] theorem slaveSilent_frameCksum (s : State) : (slaveSilent s).frameCksum = s.frameCksum := rfl
@[simp] theorem slaveSilent_pend (s : State) : (slaveSilent s).pend = s.pend := rfl
@[simp] theorem slaveSilent_syncSeen (s : State) : (slaveSilent s).syncSeen = s.syncSeen := rfl
@[simp] theorem slaveSilent_txn (s : State) : (slaveSilent s).txn = s.txn := rfl
@[simp] theorem slaveSilent_inputs (s : State) : (slaveSilent s).inputs = s.inputs := rfl
@[simp] theorem slaveSilent_hostProg (s : State) : (slaveSilent s).hostProg = s.hostProg := rfl
@[simp] theorem slaveSilent_readOut (s : State) : (slaveSilent s).readOut = s.readOut := rfl
@[simp] theorem slaveSilent_drawn (s : State) : (slaveSilent s).drawn = s.drawn := rfl

/-! ### hostRead (R49) -/

@[simp] theorem hostRead_cfg (a : Addr) (s : State) : (hostRead a s).cfg = s.cfg := rfl
@[simp] theorem hostRead_exState (a : Addr) (s : State) : (hostRead a s).exState = s.exState := rfl
@[simp] theorem hostRead_rejCause (a : Addr) (s : State) : (hostRead a s).rejCause = s.rejCause := rfl
@[simp] theorem hostRead_outcome (a : Addr) (s : State) : (hostRead a s).outcome = s.outcome := rfl
@[simp] theorem hostRead_errCode (a : Addr) (s : State) : (hostRead a s).errCode = s.errCode := rfl
@[simp] theorem hostRead_frameId (a : Addr) (s : State) : (hostRead a s).frameId = s.frameId := rfl
@[simp] theorem hostRead_dataCount (a : Addr) (s : State) : (hostRead a s).dataCount = s.dataCount := rfl
@[simp] theorem hostRead_lenValid (a : Addr) (s : State) : (hostRead a s).lenValid = s.lenValid := rfl
@[simp] theorem hostRead_variant (a : Addr) (s : State) : (hostRead a s).variant = s.variant := rfl
@[simp] theorem hostRead_frameLen (a : Addr) (s : State) : (hostRead a s).frameLen = s.frameLen := rfl
@[simp] theorem hostRead_data (a : Addr) (s : State) : (hostRead a s).data = s.data := rfl
@[simp] theorem hostRead_hdrPid (a : Addr) (s : State) : (hostRead a s).hdrPid = s.hdrPid := rfl
@[simp] theorem hostRead_frameCksum (a : Addr) (s : State) : (hostRead a s).frameCksum = s.frameCksum := rfl
@[simp] theorem hostRead_pend (a : Addr) (s : State) : (hostRead a s).pend = s.pend := rfl
@[simp] theorem hostRead_syncSeen (a : Addr) (s : State) : (hostRead a s).syncSeen = s.syncSeen := rfl
@[simp] theorem hostRead_txn (a : Addr) (s : State) : (hostRead a s).txn = s.txn := rfl
@[simp] theorem hostRead_inputs (a : Addr) (s : State) : (hostRead a s).inputs = s.inputs := rfl
@[simp] theorem hostRead_hostProg (a : Addr) (s : State) : (hostRead a s).hostProg = s.hostProg := rfl
@[simp] theorem hostRead_readOut (a : Addr) (s : State) : (hostRead a s).readOut = some (readReg (regAt a) s) := rfl
@[simp] theorem hostRead_drawn (a : Addr) (s : State) : (hostRead a s).drawn = s.drawn := rfl

end Sys2Proof.Machine
end

