-- ==== Sys2Proof/Laws/Ops.lean ====
section
/-! SUPPORT. The register map, and everything each shared operation can do (10_state.md R21, R34; 43_commands.md R106,
R110; 44_master.md R124 to R128). -/

namespace Sys2Proof.Machine

theorem regAt_data : ∀ (a : Addr) (i : Fin 8), a.toNat = 0x10 + i.val → regAt a = .data i := by decide

theorem regAt_reserved (a : Addr) (h : (0x0A ≤ a.toNat ∧ a.toNat ≤ 0x0F) ∨ 0x18 ≤ a.toNat) : regAt a = .reserved := by
  unfold regAt
  repeat' split
  all_goals first | rfl | omega

/-- A named register stands at its address. -/
theorem regAt_of_addrOf (r : Reg) (a : Addr) (h : addrOf r = some a) : regAt a = r := by
  cases r <;> simp only [addrOf, Option.some.injEq, reduceCtorEq] at h
  case data i =>
    subst h
    apply regAt_data
    have := i.isLt
    simp; omega
  all_goals (subst h; rfl)

/-- A frame-register store writes none of the registers that sequence the core (R110). -/
theorem storeReg_keeps (r : Reg) (v : Byte) (s : State) :
    (storeReg r v s).exState = s.exState ∧ (storeReg r v s).pend = s.pend ∧ (storeReg r v s).txn = s.txn ∧
    (storeReg r v s).syncSeen = s.syncSeen ∧ (storeReg r v s).outcome = s.outcome ∧
    (storeReg r v s).errCode = s.errCode ∧ (storeReg r v s).rejCause = s.rejCause ∧ (storeReg r v s).cfg = s.cfg ∧
    (storeReg r v s).hdrPid = s.hdrPid ∧ (storeReg r v s).frameCksum = s.frameCksum := by
  cases r <;> simp [storeReg]

/-- An answered response write completes with the last byte sent, or fails. -/
theorem responseWritten_cases (sent : List Byte) (w : WriteResult) (s : State) :
    (w = .ok ∧ responseWritten sent w s = completed { s with frameCksum := sent.getLast?.getD s.frameCksum }) ∨
    (w = .ioError ∧ responseWritten sent w s = fail .transportError s) := by
  cases w <;> cases h : sent.getLast? <;> simp [responseWritten, h]

/-- An answered response read keeps a response that verifies, or fails and keeps nothing of it. -/
theorem responseReadAnswered_cases (id : Ident) (w : ReadResult) (s : State) :
    (∃ d k, w = .bytes (d ++ [k]) ∧ cksumMatch s.cfg id s.variant (d ++ [k]) = true ∧
      responseReadAnswered id w s = completed
        { s with data := scatter d s.data, dataCount := BitVec.ofNat 4 d.length, frameCksum := k }) ∨
    (∃ r, w = .bytes r ∧ cksumMatch s.cfg id s.variant r = false ∧
      responseReadAnswered id w s = fail .checksumMismatch s) ∨
    (w = .ioError ∧ responseReadAnswered id w s = fail .transportError s) := by
  cases w with
  | ioError => exact .inr (.inr ⟨rfl, rfl⟩)
  | bytes r =>
    cases hm : cksumMatch s.cfg id s.variant r with
    | false => exact .inr (.inl ⟨r, rfl, hm, by simp [responseReadAnswered, hm]⟩)
    | true =>
      rcases List.eq_nil_or_concat r with rfl | ⟨d, k, rfl⟩
      · simp [cksumMatch] at hm
      · rw [List.concat_eq_append] at hm ⊢
        exact .inl ⟨d, k, rfl, hm, by simp [responseReadAnswered, hm, keepResponse]⟩

end Sys2Proof.Machine
end

