-- ==== Sys2Proof/Laws/PerInstr.lean ====
section
/-! SUPPORT. The per-instruction family EncodesToOneByte: a command is well formed, its encoding is one byte below 5, and
that byte, with any bytes after it, decodes to the command (30_encoding.md R61 to R63, R80). -/

/-- Of one command: well formed, one byte, and decoded from that byte. -/
def Sys2Proof.Laws.EncodesToOneByte.Statement (i : Sys2Proof.Instr) : Prop :=
  i.wellFormed = true ∧ (∃ c : Sys2Proof.Byte, Sys2Proof.encode i = [c] ∧ c.toNat < 5) ∧
    ∀ rest, Sys2Proof.decode (Sys2Proof.encode i ++ rest) = .ok (i, rest)

theorem Sys2Proof.Laws.EncodesToOneByte.nop : Sys2Proof.Laws.EncodesToOneByte.Statement .nop :=
  ⟨rfl, ⟨0x00#8, rfl, by decide⟩, fun _ => rfl⟩

theorem Sys2Proof.Laws.EncodesToOneByte.send : Sys2Proof.Laws.EncodesToOneByte.Statement .send :=
  ⟨rfl, ⟨0x01#8, rfl, by decide⟩, fun _ => rfl⟩

theorem Sys2Proof.Laws.EncodesToOneByte.wait : Sys2Proof.Laws.EncodesToOneByte.Statement .wait :=
  ⟨rfl, ⟨0x02#8, rfl, by decide⟩, fun _ => rfl⟩

theorem Sys2Proof.Laws.EncodesToOneByte.complete : Sys2Proof.Laws.EncodesToOneByte.Statement .complete :=
  ⟨rfl, ⟨0x03#8, rfl, by decide⟩, fun _ => rfl⟩

theorem Sys2Proof.Laws.EncodesToOneByte.cancel : Sys2Proof.Laws.EncodesToOneByte.Statement .cancel :=
  ⟨rfl, ⟨0x04#8, rfl, by decide⟩, fun _ => rfl⟩
end

