-- ==== Sys2Proof/Laws/Step.lean ====
section
/-! SUPPORT. Said once: everything a host write can do and everything an event can do, with its guards (43_commands.md
R105 to R118; 44_master.md; 45_slave.md). Later proofs take these cases apart and unfold no step. -/

namespace Sys2Proof.Machine

/-! ## A command, and any host write -/

/-- Everything a host write can do to the core (R105, R106, R110, R116). -/
inductive WriteCase (s t : State) : Prop
  | same (h : t = s)
  | rejected (c : RejCause) (h : t = reject c s)
  | send (hr : s.cfg.role = .master) (h1 : s.exState = .idle) (h2 : busy s = false) (h : t = accept .send s)
  | wait (hr : s.cfg.role = .slave) (h1 : s.exState = .idle) (h2 : busy s = false) (h : t = accept .wait s)
  | complete (hr : s.cfg.role = .slave) (h1 : s.exState = .responsePending) (h2 : busy s = false)
      (h : t = accept .complete s)
  | cancelPend (hr : s.cfg.role = .slave) (h1 : s.pend = .wait)
      (h : t = { s with pend := .none, outcome := .cancelled, errCode := .none })
  | cancelHunt (hr : s.cfg.role = .slave) (h0 : s.pend ≠ .wait) (h1 : s.exState = .awaitHeader)
      (h : t = endWait .cancelled .none s)
  | frame (r : Reg) (v : Byte) (hr : accessOf r = .readWrite) (h2 : busy s = false) (h : t = storeReg r v s)

/-- Every command goes on (R155). -/
theorem exec_next (i : Instr) (s : State) : ∃ t, exec i s = .next t := by cases i <;> exact ⟨_, rfl⟩

theorem admitCmd_cases {r : Role} {x : ExState} {p : Pend} {s : State} {P : State → Prop}
    (h1 : s.cfg.role = r → s.exState = x → busy s = false → P (accept p s)) (h2 : ∀ c, P (reject c s)) :
    P (underRole r (admitCmd x p s) s) := by
  unfold underRole admitCmd
  split
  · split
    · exact h1 ‹_› (by tauto) (by tauto)
    · exact h2 _
  · exact h2 _

theorem exec_cases (i : Instr) (s t : State) (h : exec i s = .next t) : WriteCase s t := by
  cases i <;> cases h
  · exact .same rfl
  · exact admitCmd_cases (fun a b c => .send a b c rfl) (fun c => .rejected c rfl)
  · exact admitCmd_cases (fun a b c => .wait a b c rfl) (fun c => .rejected c rfl)
  · exact admitCmd_cases (fun a b c => .complete a b c rfl) (fun c => .rejected c rfl)
  · unfold underRole
    split
    · unfold cancelWait
      split
      · exact .cancelPend ‹_› ‹_› rfl
      · split
        · exact .cancelHunt ‹_› ‹_› ‹_› rfl
        · exact .same rfl
    · exact .rejected _ rfl

theorem hostWrite_next (a : Addr) (v : Byte) (s : State) : ∃ t, hostWrite a v s = .next t := by
  unfold hostWrite
  split
  · unfold commandWrite
    split
    · exact exec_next _ _
    · exact ⟨_, rfl⟩
  all_goals exact ⟨_, rfl⟩

theorem hostWrite_cases (a : Addr) (v : Byte) (s t : State) (h : hostWrite a v s = .next t) : WriteCase s t := by
  have frame : ∀ r, accessOf r = .readWrite → WriteCase s (writeFrameReg r v s) := by
    intro r hr
    unfold writeFrameReg
    split
    · exact .rejected _ rfl
    · exact .frame r v hr (by simp_all) rfl
  unfold hostWrite at h
  split at h
  · unfold commandWrite at h
    split at h
    · exact exec_cases _ _ _ h
    · cases h; exact .rejected _ rfl
  all_goals cases h
  all_goals first | exact .same rfl | exact frame _ rfl

/-! ## Any event -/

/-- Everything an event can do. `idle`: the event is not enabled. -/
inductive ActCase (e : Event) (s t : State) : Prop
  | write (lines : List HostLine) (he : hostEvent e = true) (h : WriteCase { s with hostProg := lines } t)
  | read (b : Option Byte) (lines : List HostLine) (he : hostEvent e = true)
      (h : t = { s with readOut := b, hostProg := lines })
  | idle (hn : enabled e s = false) (h : t = s)
  | sendFail (he : e = .engine) (h1 : s.exState = .idle) (h2 : s.pend = .send) (c : ErrCode)
      (hv : validateMaster s = some c) (h : t = fail c { s with pend := .none })
  | sendOk (he : e = .engine) (h1 : s.exState = .idle) (h2 : s.pend = .send) (hv : validateMaster s = none)
      (h : t = issue (headerRequest s) { s with pend := .none, exState := .headerSent })
  | waitStart (he : e = .engine) (h1 : s.exState = .idle) (h2 : s.pend = .wait) (h : t = waitStart s)
  | completeFail (he : e = .engine) (h1 : s.exState = .responsePending) (h2 : s.pend = .complete) (c : ErrCode)
      (hv : validateSlave s = some c) (h : t = fail c { s with pend := .none })
  | completeSilent (he : e = .engine) (h1 : s.exState = .responsePending) (h2 : s.pend = .complete)
      (hv : validateSlave s = none) (hd : direction s = .silent) (h : t = slaveSilent { s with pend := .none })
  | completeTransmit (he : e = .engine) (h1 : s.exState = .responsePending) (h2 : s.pend = .complete)
      (hv : validateSlave s = none) (hd : direction s = .transmit)
      (h : t = issue (responseRequest (hdrIdent s) s) { s with pend := .none })
  | completeReceive (he : e = .engine) (h1 : s.exState = .responsePending) (h2 : s.pend = .complete) (len : Nibble)
      (hv : validateSlave s = none) (hd : direction s = .receive len)
      (h : t = issue (responseRead len) { s with pend := .none })
  | transmit (he : e = .engine) (h1 : s.exState = .headerSent) (h2 : s.txn = none) (hd : direction s = .transmit)
      (h : t = issue (responseRequest (frameIdent s) s) s)
  | receive (he : e = .engine) (h1 : s.exState = .headerSent) (h2 : s.txn = none) (len : Nibble)
      (hd : direction s = .receive len) (h : t = issue (responseRead len) { s with exState := .awaitResponse })
  | silent (he : e = .engine) (h1 : s.exState = .headerSent) (h2 : s.txn = none) (hd : direction s = .silent)
      (h : t = completed s)
  | poll (he : e = .engine) (h1 : s.exState = .awaitHeader) (h2 : s.txn = none) (h : t = issue (.read 1) s)
  | terminal (he : e = .engine) (h1 : s.exState = .complete ∨ s.exState = .error) (h : t = terminalStep s)
  | ioError (a : Answer) (he : e = .answer a)
      (ha : a = .ioError ∨ ∃ r n, a = .bytes r ∧ s.txn = some (.read n) ∧ r.length ≠ n) (h2 : s.txn ≠ none)
      (h1 : s.exState = .headerSent ∨ s.exState = .awaitResponse ∨ s.exState = .awaitHeader ∨
        s.exState = .responsePending)
      (h : t = fail .transportError { s with txn := none })
  | headerOk (he : e = .answer .ok) (b : List Byte) (h1 : s.exState = .headerSent)
      (h2 : s.txn = some (.write .header b)) (h : t = { s with txn := none })
  | sent (he : e = .answer .ok) (b : List Byte) (h1 : s.exState = .headerSent ∨ s.exState = .responsePending)
      (h2 : s.txn = some (.write .response b))
      (h : t = completed { s with txn := none, frameCksum := b.getLast?.getD s.frameCksum })
  | mismatch (r : List Byte) (id : Ident) (he : e = .answer (.bytes r))
      (h1 : (s.exState = .awaitResponse ∧ id = frameIdent s) ∨ (s.exState = .responsePending ∧ id = hdrIdent s))
      (h2 : s.txn = some (.read r.length)) (hm : cksumMatch s.cfg id s.variant r = false)
      (h : t = fail .checksumMismatch { s with txn := none })
  | kept (d : List Byte) (k : Byte) (id : Ident) (he : e = .answer (.bytes (d ++ [k])))
      (h1 : (s.exState = .awaitResponse ∧ id = frameIdent s) ∨ (s.exState = .responsePending ∧ id = hdrIdent s))
      (h2 : s.txn = some (.read (d.length + 1))) (hm : cksumMatch s.cfg id s.variant (d ++ [k]) = true)
      (h : t = completed
        { s with txn := none, data := scatter d s.data, dataCount := BitVec.ofNat 4 d.length, frameCksum := k })
  | hunted (b : Byte) (he : e = .answer (.bytes [b])) (h1 : s.exState = .awaitHeader) (h2 : s.txn = some (.read 1))
      (h3 : s.syncSeen = false) (h : t = { s with txn := none, syncSeen := b == syncByte })
  | parityWrong (b : Byte) (he : e = .answer (.bytes [b])) (h1 : s.exState = .awaitHeader)
      (h2 : s.txn = some (.read 1)) (h3 : s.syncSeen = true) (hp : pidOk b = false)
      (h : t = { s with txn := none, syncSeen := false })
  | found (b : Byte) (he : e = .answer (.bytes [b])) (h1 : s.exState = .awaitHeader) (h2 : s.txn = some (.read 1))
      (h3 : s.syncSeen = true) (hp : pidOk b = true) (h : t = headerFound b { s with txn := none })
  | deadline (he : e = .deadline) (h1 : s.exState = .awaitHeader) (h : t = endWait .failed .timeout s)
  | reset (he : e = .reset) (h : t = resetStep s)

/-- The read result of a byte list has the length asked for. -/
theorem readResult_bytes (n : Nat) (a : Answer) (r : List Byte) (h : readResult n a = some (.bytes r)) :
    a = .bytes r ∧ r.length = n := by
  unfold readResult at h
  split at h
  · split at h <;> simp at h
    exact ⟨by rw [h], by rw [← h]; assumption⟩
  · simp at h
  · cases h

theorem readResult_ioError (n : Nat) (a : Answer) (h : readResult n a = some .ioError) :
    a = .ioError ∨ ∃ r, a = .bytes r ∧ r.length ≠ n := by
  unfold readResult at h
  split at h
  · split at h <;> simp at h
    exact .inr ⟨_, rfl, ‹_›⟩
  · exact .inl rfl
  · cases h

theorem engineTurn_cases (s : State) : ActCase .engine s (engineTurn s) := by
  have idle : engineStep? s = none → ActCase .engine s (engineTurn s) := fun h =>
    .idle (by simp [enabled, h]) (by simp [engineTurn, h])
  cases h1 : s.exState with
  | idle =>
    cases h2 : s.pend with
    | none => exact idle (by simp [engineStep?, h1, h2])
    | complete => exact idle (by simp [engineStep?, h1, h2])
    | wait => exact .waitStart rfl h1 h2 (by simp [engineTurn, engineStep?, h1, h2])
    | send =>
      have e : engineTurn s = sendStart s := by simp [engineTurn, engineStep?, h1, h2]
      rw [e, sendStart]
      cases hv : validateMaster s with
      | none => exact .sendOk rfl h1 h2 hv rfl
      | some c => exact .sendFail rfl h1 h2 c hv rfl
  | responsePending =>
    cases h2 : s.pend with
    | none => exact idle (by simp [engineStep?, h1, h2])
    | send => exact idle (by simp [engineStep?, h1, h2])
    | wait => exact idle (by simp [engineStep?, h1, h2])
    | complete =>
      have e : engineTurn s = completeStart s := by simp [engineTurn, engineStep?, h1, h2]
      rw [e, completeStart]
      cases hv : validateSlave s with
      | some c => exact .completeFail rfl h1 h2 c hv rfl
      | none =>
        cases hd : direction s with
        | silent => exact .completeSilent rfl h1 h2 hv hd rfl
        | transmit => exact .completeTransmit rfl h1 h2 hv hd rfl
        | receive len => exact .completeReceive rfl h1 h2 len hv hd rfl
  | headerSent =>
    cases h2 : s.txn with
    | some q => exact idle (by simp [engineStep?, h1, h2])
    | none =>
      have e : engineTurn s = responseDispatch s := by simp [engineTurn, engineStep?, h1, h2]
      rw [e, responseDispatch]
      cases hd : direction s with
      | silent => exact .silent rfl h1 h2 hd rfl
      | transmit => exact .transmit rfl h1 h2 hd rfl
      | receive len => exact .receive rfl h1 h2 len hd rfl
  | awaitHeader =>
    cases h2 : s.txn with
    | some q => exact idle (by simp [engineStep?, h1, h2])
    | none => exact .poll rfl h1 h2 (by simp [engineTurn, engineStep?, h1, h2, headerPoll])
  | awaitResponse => exact idle (by simp [engineStep?, h1])
  | complete => exact .terminal rfl (.inl h1) (by simp [engineTurn, engineStep?, h1])
  | error => exact .terminal rfl (.inr h1) (by simp [engineTurn, engineStep?, h1])

theorem writeAnswered_cases (a : Answer) (w : WriteResult) (k : TxKind) (b : List Byte) (s t : State)
    (ht : s.txn = some (.write k b)) (hw : writeResult a = some w)
    (h : writeAnswered k b w { s with txn := none } = .next t) : ActCase (.answer a) s t := by
  have hf : w = .ioError → a = .ioError := by rintro rfl; cases a <;> simp [writeResult] at hw ⊢
  have ho : w = .ok → a = .ok := by rintro rfl; cases a <;> simp [writeResult] at hw ⊢
  unfold writeAnswered at h
  split at h
  · rename_i h1
    cases h
    cases w with
    | ok => rw [ho rfl]; exact .headerOk rfl b h1 ht rfl
    | ioError => exact .ioError a rfl (.inl (hf rfl)) (by simp [ht]) (.inl h1) rfl
  all_goals
    first
    | cases h; done
    | rename_i h1
      cases h
      rcases responseWritten_cases b w { s with txn := none } with ⟨hw', e⟩ | ⟨hw', e⟩
  · rw [masterTransmitAnswered, e, ho hw']; exact .sent rfl b (.inl h1) ht rfl
  · rw [masterTransmitAnswered, e]; exact .ioError a rfl (.inl (hf hw')) (by simp [ht]) (.inl h1) rfl
  · rw [slaveTransmitAnswered, e, ho hw']; exact .sent rfl b (.inr h1) ht rfl
  · rw [slaveTransmitAnswered, e]; exact .ioError a rfl (.inl (hf hw')) (by simp [ht]) (by tauto) rfl

theorem readAnswered_cases (a : Answer) (w : ReadResult) (n : Nat) (s t : State) (ht : s.txn = some (.read n))
    (hw : readResult n a = some w) (h : readAnswered n w { s with txn := none } = .next t) :
    ActCase (.answer a) s t := by
  have hne : s.txn ≠ none := by simp [ht]
  have hf : w = .ioError → a = .ioError ∨ ∃ r m, a = .bytes r ∧ s.txn = some (.read m) ∧ r.length ≠ m := by
    rintro rfl
    rcases readResult_ioError n a hw with h | ⟨r, h, hr⟩
    · exact .inl h
    · exact .inr ⟨r, n, h, ht, hr⟩
  have response : ∀ id, (s.exState = .awaitResponse ∧ id = frameIdent s) ∨
      (s.exState = .responsePending ∧ id = hdrIdent s) →
      ActCase (.answer a) s (responseReadAnswered id w { s with txn := none }) := by
    intro id h1
    rcases responseReadAnswered_cases id w { s with txn := none } with ⟨d, k, hb, hm, e⟩ | ⟨r, hb, hm, e⟩ | ⟨hb, e⟩
    · subst hb
      obtain ⟨ha, hl⟩ := readResult_bytes n a _ hw
      rw [e, ha]; exact .kept d k id rfl h1 (by rw [ht, ← hl]; simp) hm rfl
    · subst hb
      obtain ⟨ha, hl⟩ := readResult_bytes n a _ hw
      rw [e, ha]; exact .mismatch r id rfl h1 (by rw [ht, hl]) hm rfl
    · rw [e]; exact .ioError a rfl (hf hb) hne (by tauto) rfl
  unfold readAnswered at h
  split at h
  · cases h; exact response _ (.inl ⟨‹_›, rfl⟩)
  · rename_i h1
    split at h
    · cases h
      rename_i hn
      subst hn
      cases w with
      | ioError => exact .ioError a rfl (hf rfl) hne (.inr (.inr (.inl h1))) rfl
      | bytes r =>
        obtain ⟨rfl, hl⟩ := readResult_bytes 1 a r hw
        obtain ⟨b, rfl⟩ := List.length_eq_one_iff.1 hl
        unfold headerPollAnswered huntByte
        simp only
        split
        · exact .hunted b rfl h1 ht ‹_› rfl
        · have h3 : s.syncSeen = true := by simp_all
          split
          · exact .found b rfl h1 ht h3 ‹_› rfl
          · exact .parityWrong b rfl h1 ht h3 (by simp_all) rfl
    · cases h
  · cases h; exact response _ (.inr ⟨‹_›, rfl⟩)
  all_goals cases h

theorem transportAnswer_cases (a : Answer) (s t : State) (h : transportAnswer a s = .next t) :
    ActCase (.answer a) s t := by
  unfold transportAnswer at h
  split at h
  · cases h; exact .idle (by simp [enabled, *]) rfl
  · split at h
    · exact writeAnswered_cases _ _ _ _ _ _ ‹_› ‹_› h
    · cases h; exact .idle (by simp [enabled, answerFits, *]) rfl
  · split at h
    · exact readAnswered_cases _ _ _ _ _ ‹_› ‹_› h
    · cases h; exact .idle (by simp [enabled, answerFits, *]) rfl

/-- The inversion of one event. -/
theorem act_cases (e : Event) (s t : State) (h : act e s = .next t) : ActCase e s t := by
  cases e with
  | hostRead a => cases h; exact .read _ s.hostProg rfl rfl
  | hostWrite a v => exact .write s.hostProg rfl (hostWrite_cases a v s t h)
  | hostLine =>
    simp only [act, hostLineStep] at h
    split at h
    · cases h; exact .idle (by simp [enabled, *]) rfl
    · exact .write _ rfl (hostWrite_cases _ _ _ _ h)
    · cases h; exact .read _ _ rfl rfl
    · cases h; exact .read _ _ rfl rfl
  | engine => cases h; exact engineTurn_cases s
  | answer a => exact transportAnswer_cases a s t h
  | deadline =>
    simp only [act, deadlineStep, Host.Outcome.next.injEq] at h
    split at h
    · exact .deadline rfl ‹_› h.symm
    · exact .idle (by simpa [enabled] using ‹_›) h.symm
  | reset => cases h; exact .reset rfl rfl

/-! ## Steps and sequences of events -/

/-- What a step takes its event from: the state less the event. -/
theorem nextEvent_snd (s : State) : ∃ i d, (nextEvent s).2 = { s with inputs := i, drawn := d } := by
  unfold nextEvent
  split <;> exact ⟨_, _, rfl⟩

theorem actAll_append (xs ys : List Event) :
    ∀ s t : State, actAll xs s = .next t → actAll (xs ++ ys) s = actAll ys t := by
  induction xs with
  | nil => intro s t h; cases h; rfl
  | cons e es ih =>
    intro s t h
    simp only [List.cons_append, actAll] at *
    cases he : act e s <;> rw [he] at h <;> simp at h ⊢
    exact ih _ _ h

end Sys2Proof.Machine
end

