-- ==== Sys2Proof/Laws/Validation.lean ====
section
/-! SUPPORT. What a failing check says, and what validation depends on (42_frame_validation.md R98 to R103). -/

namespace Sys2Proof.Machine

theorem checkId_some (s : State) (c : ErrCode) (h : checkId s = some c) :
    c = .invalidIdentifier ∧ s.frameId.toNat > 63 := by
  unfold checkId at h; split at h <;> simp_all

theorem checkData_some (s : State) (c : ErrCode) (h : checkData s = some c) :
    c = .payloadTooLarge ∧ s.dataCount.toNat > 8 := by
  unfold checkData at h; split at h <;> simp_all

theorem checkLength_some (s : State) (c : ErrCode) (h : checkLength s = some c) :
    c = .payloadTooLarge ∧ s.lenValid = true ∧ s.frameLen.toNat > 8 := by
  unfold checkLength at h; split at h <;> simp_all

theorem checkCoherence_some (s : State) (c : ErrCode) (h : checkCoherence s = some c) :
    c = .frameIncoherent ∧ s.lenValid = true ∧
      (s.frameLen.toNat = 0 ∨ (1 ≤ s.dataCount.toNat ∧ s.frameLen ≠ s.dataCount)) := by
  unfold checkCoherence at h
  split at h
  · exact ⟨(Option.some.inj h).symm, by tauto⟩
  · split at h
    · exact ⟨(Option.some.inj h).symm, by tauto⟩
    · cases h

theorem firstFailure_cons_some (o : Option ErrCode) (l : List (Option ErrCode)) (c : ErrCode)
    (h : firstFailure (o :: l) = some c) : o = some c ∨ firstFailure l = some c := by
  cases o <;> simp_all [firstFailure]

/-- A result of validation is the result of one of its checks. -/
theorem validateSlave_some (s : State) (c : ErrCode) (h : validateSlave s = some c) :
    checkData s = some c ∨ checkLength s = some c ∨ checkCoherence s = some c := by
  rcases firstFailure_cons_some _ _ _ h with h | h
  · exact .inl h
  · rcases firstFailure_cons_some _ _ _ h with h | h
    · exact .inr (.inl h)
    · rcases firstFailure_cons_some _ _ _ h with h | h
      · exact .inr (.inr h)
      · cases h

/-- Each code of slave validation, with what makes the frame fail. -/
theorem validateSlave_cause (s : State) (c : ErrCode) (h : validateSlave s = some c) :
    (c = .payloadTooLarge ∧ (s.dataCount.toNat > 8 ∨ (s.lenValid = true ∧ s.frameLen.toNat > 8))) ∨
    (c = .frameIncoherent ∧ s.lenValid = true ∧
      (s.frameLen.toNat = 0 ∨ (1 ≤ s.dataCount.toNat ∧ s.frameLen ≠ s.dataCount))) := by
  rcases validateSlave_some s c h with h | h | h
  · obtain ⟨hc, hd⟩ := checkData_some s c h; exact .inl ⟨hc, .inl hd⟩
  · obtain ⟨hc, hl⟩ := checkLength_some s c h; exact .inl ⟨hc, .inr hl⟩
  · exact .inr (checkCoherence_some s c h)

theorem validateMaster_some (s : State) (c : ErrCode) (h : validateMaster s = some c) :
    checkId s = some c ∨ validateSlave s = some c := firstFailure_cons_some _ _ _ h

theorem validateSlave_of_validateMaster (s : State) (h : validateMaster s = none) : validateSlave s = none := by
  unfold validateMaster at h
  cases hc : checkId s <;> simp [hc, firstFailure] at h
  exact h

theorem validateSlave_code (s : State) (c : ErrCode) (h : validateSlave s = some c) :
    c = .payloadTooLarge ∨ c = .frameIncoherent :=
  (validateSlave_cause s c h).imp (·.1) (·.1)

theorem validateMaster_code (s : State) (c : ErrCode) (h : validateMaster s = some c) :
    c = .invalidIdentifier ∨ c = .payloadTooLarge ∨ c = .frameIncoherent := by
  rcases validateMaster_some s c h with h | h
  · exact .inl (checkId_some s c h).1
  · exact .inr (validateSlave_code s c h)

theorem validateSlave_congr {s t : State} (h1 : t.dataCount = s.dataCount) (h2 : t.lenValid = s.lenValid)
    (h3 : t.frameLen = s.frameLen) : validateSlave t = validateSlave s := by
  simp [validateSlave, checkData, checkLength, checkCoherence, h1, h2, h3]

theorem validateMaster_congr {s t : State} (h0 : t.frameId = s.frameId) (h1 : t.dataCount = s.dataCount)
    (h2 : t.lenValid = s.lenValid) (h3 : t.frameLen = s.frameLen) : validateMaster t = validateMaster s := by
  simp [validateMaster, checkId, checkData, checkLength, checkCoherence, h0, h1, h2, h3]

theorem direction_congr {s t : State} (h1 : t.dataCount = s.dataCount) (h2 : t.lenValid = s.lenValid)
    (h3 : t.frameLen = s.frameLen) : direction t = direction s := by
  simp [direction, h1, h2, h3]

theorem direction_receive_len (s : State) (len : Nibble) (h : direction s = .receive len) :
    s.frameLen = len ∧ s.lenValid = true ∧ s.dataCount.toNat = 0 := by
  unfold direction at h
  split at h
  · cases h
  · split at h
    · cases h; exact ⟨rfl, ‹_›, by omega⟩
    · cases h

end Sys2Proof.Machine
end

