-- ==== Sys2Proof/Tests/Slice0.lean ====
section
/-! SUPPORT. Tests, and for every statement with hypotheses a witness that meets them. Expected values come from
95_test_vectors.md and from the tables of the spec, not from the model. -/

namespace Sys2Proof.Tests

open Sys2Proof.Machine

/-! ## Helpers -/

/-- The outcome is a next state with this property. -/
def goes (o : Host.Outcome State Fault Refusal) (p : State → Bool) : Bool :=
  match o with
  | .next t => p t
  | .fault _ => false
  | .refused _ => false

def asMaster : Config := { role := .master }
def asSlave : Config := { role := .slave }

/-- A host write of a command byte. -/
def cmd (c : Byte) : Event := .hostWrite 0x00#5 c

/-- What the host reads at an address. -/
def rd (a : Addr) (s : State) : Byte := readReg (regAt a) s

/-- The frame of 95 S6: identifier 42 and the data 1, 2, 3, 4, as an instance in role `c` holds it. -/
def frame42 (c : Config) : State :=
  { State.resetOf c with frameId := 42, dataCount := 4, data := #v[1, 2, 3, 4, 0, 0, 0, 0] }

/-- A slave that hunts for a header. -/
def hunting (sync : Bool) : State := { State.resetOf asSlave with exState := .awaitHeader, syncSeen := sync }

/-- A slave that was sent the header of identifier 42 and declares a response of 4 bytes. -/
def answering : State :=
  { State.resetOf asSlave with
    exState := .responsePending, outcome := .headerReceived, hdrPid := 0x6A, frameId := 42, lenValid := true, frameLen := 4 }

/-! ## Well-formedness: what the checks refuse -/

theorem test_wf_write_of_no_byte : (Request.write .header []).wellFormed = false := by decide
theorem test_wf_write_of_ten_bytes : (Request.write .response (List.replicate 10 0)).wellFormed = false := by decide
theorem test_wf_read_of_no_byte : (Request.read 0).wellFormed = false := by decide
theorem test_wf_read_of_ten_bytes : (Request.read 10).wellFormed = false := by decide
theorem test_wf_bounds : (Request.read 1).wellFormed = true ∧ (Request.read 9).wellFormed = true := by decide

/-! ## Decoding: the bytes of R63, bit by bit -/

theorem test_decode_nop : decodeByte 0b00000000#8 = .ok .nop := by decide
theorem test_decode_send : decodeByte 0b00000001#8 = .ok .send := by decide
theorem test_decode_wait : decodeByte 0b00000010#8 = .ok .wait := by decide
theorem test_decode_complete : decodeByte 0b00000011#8 = .ok .complete := by decide
theorem test_decode_cancel : decodeByte 0b00000100#8 = .ok .cancel := by decide
/-- R64: the reserved bytes, at both ends and with a command's low bits. -/
theorem test_decode_reserved :
    decodeByte 0x05#8 = .error (.reservedByte 0x05#8) ∧ decodeByte 0xFF#8 = .error (.reservedByte 0xFF#8) ∧
    decodeByte 0x81#8 = .error (.reservedByte 0x81#8) := by decide
theorem test_decode_table_word : decodeTableWord 8 3 = some .complete ∧ decodeTableWord 8 5 = none := by decide
theorem test_step_runs_fetch_word :
    goes (step (State.reset.withFetchWord 8 1)) (fun t => decide (t = { State.reset with pend := .send })) = true := by decide

/-! ## The register space (10_state.md) -/

/-- 95 S1 and R43: PID_VIEW and CKSUM_VIEW after reset; STATUS and RESULT are 0. -/
theorem test_reset_reads :
    rd 0x06 State.reset = 0x80 ∧ rd 0x07 State.reset = 0xFF ∧ rd 0x01 State.reset = 0 ∧ rd 0x02 State.reset = 0 := by decide
/-- R27, R35: the reserved bits of FRAME_CTL are discarded; R29: DATA7 stands at 0x17. -/
theorem test_frame_writes :
    goes (actAll [.hostWrite 0x04 0xF4, .hostWrite 0x17 0xAB] State.reset)
      (fun t => rd 0x04 t == 0x34 && rd 0x17 t == 0xAB && t.dataCount == 4) = true := by decide

/-! ## PID (95 section 2) -/

theorem test_pid_table :
    (List.range 64).map (fun i => (pid (BitVec.ofNat 6 i)).toNat) =
      [0x80, 0xC1, 0x42, 0x03, 0xC4, 0x85, 0x06, 0x47, 0x08, 0x49, 0xCA, 0x8B, 0x4C, 0x0D, 0x8E, 0xCF] ++
      [0x50, 0x11, 0x92, 0xD3, 0x14, 0x55, 0xD6, 0x97, 0xD8, 0x99, 0x1A, 0x5B, 0x9C, 0xDD, 0x5E, 0x1F] ++
      [0x20, 0x61, 0xE2, 0xA3, 0x64, 0x25, 0xA6, 0xE7, 0xA8, 0xE9, 0x6A, 0x2B, 0xEC, 0xAD, 0x2E, 0x6F] ++
      [0xF0, 0xB1, 0x32, 0x73, 0xB4, 0xF5, 0x76, 0x37, 0x78, 0x39, 0xBA, 0xFB, 0x3C, 0x7D, 0xFE, 0xBF] := by decide
theorem test_pid_ok : pidOk 0x6A = true ∧ pidOk 0x2A = false ∧ pidOk 0xBC = false := by decide

/-! ## Checksum (95 section 3) -/

theorem test_checksum_corners :
    checksum [] = 0xFF ∧ checksum [0xFF] = 0x00 ∧ checksum [1, 2, 3, 4] = 0xF5 ∧ checksum [0x80, 0x80] = 0xFE ∧
    checksum [0xF0, 0x0F, 0x01] = 0xFE ∧ checksum (List.replicate 8 0xFF) = 0x00 := by decide
theorem test_checksum_enhanced :
    frameCksum asMaster 16 .enhanced [0x12, 0x34] = 0xA9 ∧
    frameCksum { asMaster with enhIdForm := .pid } 16 .enhanced [0x12, 0x34] = 0x69 ∧
    frameCksum asMaster 59 .enhanced [1, 2, 3, 4] = 0xBA ∧ frameCksum asMaster 60 .enhanced [1, 2, 3, 4] = 0xF5 := by decide
theorem test_cksum_match :
    cksumMatch asMaster 42 .classic [0xFF, 0x00] = true ∧ cksumMatch asMaster 42 .classic [0xFF, 0xFF] = false := by decide

/-! ## Validation (95 section 4) -/

/-- V3.2: the identifier is checked first. -/
theorem test_validate_identifier_first :
    validateMaster { State.reset with frameId := 0xFF, dataCount := 9 } = some .invalidIdentifier := by decide
/-- FRAME_LEN 9 counts with LEN_VALID alone; a set length of 0 is incoherent. -/
theorem test_validate_length :
    validateMaster { State.reset with lenValid := true, frameLen := 9 } = some .payloadTooLarge ∧
    validateMaster { State.reset with frameLen := 9 } = none ∧
    validateMaster { State.reset with lenValid := true } = some .frameIncoherent := by decide

/-! ## The commands -/

theorem test_nop_while_busy :
    goes (act (cmd 0x00) { State.reset with pend := .send }) (fun t => decide (t = { State.reset with pend := .send })) = true := by
  decide
/-- 95 S5, S6: the header byte is 0x6A, the response is 1, 2, 3, 4, 0xF5; RESULT is 0x01. -/
theorem test_send_requests :
    goes (actAll [cmd 0x01, .engine] (frame42 asMaster)) (fun t => t.txn == some (.write .header [0x6A])) = true ∧
    goes (actAll [cmd 0x01, .engine, .answer .ok, .engine] (frame42 asMaster))
      (fun t => t.txn == some (.write .response [1, 2, 3, 4, 0xF5]) && rd 0x01 t == 0x09) = true := by decide
theorem test_send_ends :
    goes (actAll [cmd 0x01, .engine, .answer .ok, .engine, .answer .ok, .engine] (frame42 asMaster))
      (fun t => rd 0x01 t == 0x00 && rd 0x02 t == 0x01 && rd 0x09 t == 0xF5) = true := by decide
/-- The header 0x55, 0x6A is found after a byte that is no sync; RESULT is 0x02. -/
theorem test_wait_finds_header :
    goes (actAll [cmd 0x02, .engine, .engine, .answer (.bytes [0x00]), .engine, .answer (.bytes [0x55]), .engine,
        .answer (.bytes [0x6A])] (State.resetOf asSlave))
      (fun t => rd 0x01 t == 0x04 && rd 0x02 t == 0x02 && rd 0x08 t == 0x6A && rd 0x03 t == 0x2A) = true := by decide
/-- R136: a byte of wrong parity ends its sync. -/
theorem test_wait_parity_error :
    goes (act (.answer (.bytes [0x2A])) { hunting true with txn := some (.read 1) })
      (fun t => !t.syncSeen && t.exState == .awaitHeader) = true := by decide
/-- 95 S7: the wrong checksum byte 0x00; RESULT is 0x1D and no data is kept. -/
theorem test_complete_mismatch :
    goes (actAll [cmd 0x03, .engine, .answer (.bytes [1, 2, 3, 4, 0]), .engine] answering)
      (fun t => rd 0x01 t == 0x00 && rd 0x02 t == 0x1D && rd 0x10 t == 0 && rd 0x04 t == 0x10) = true := by decide
/-- 95 S5: the right checksum byte 0xF5. -/
theorem test_complete_match :
    goes (actAll [cmd 0x03, .engine, .answer (.bytes [1, 2, 3, 4, 0xF5]), .engine] answering)
      (fun t => rd 0x02 t == 0x01 && rd 0x13 t == 4 && rd 0x04 t == 0x14 && rd 0x09 t == 0xF5) = true := by decide
/-- 95 S9: RESULT is 0x04 and STATUS is 0x00. -/
theorem test_cancel_hunt :
    goes (act (cmd 0x04) { hunting false with txn := some (.read 1) })
      (fun t => rd 0x02 t == 0x04 && rd 0x01 t == 0x00 && t.txn == none) = true := by decide
/-- R116: no effect in a slave exchange that waits for the host. -/
theorem test_cancel_elsewhere :
    goes (act (cmd 0x04) answering) (fun t => decide (t = answering)) = true := by decide
/-- R140: RESULT is 0x2D. -/
theorem test_deadline : goes (act .deadline (hunting true)) (fun t => rd 0x02 t == 0x2D && !t.syncSeen) = true := by decide

/-! ## Witnesses

One theorem (or more) per statement that has hypotheses: concrete states and operands that meet all of them together, one
per clause, at the boundary values of a clause's range. -/

/-- A state of either role that is not busy, with one more event scheduled. -/
def withNext (e : Event) (s : State) : State := { s with inputs := [e] }

theorem slave_reset_exchange : ExchangeInv (State.resetOf asSlave) := by
  constructor
  · constructor <;> simp [State.resetOf]
  all_goals simp [State.resetOf]

/-- A master that has accepted a SEND. -/
def sending : State := { frame42 asMaster with pend := .send }

theorem sending_exchange : ExchangeInv sending := by
  constructor
  · constructor <;> simp [sending, frame42, State.resetOf]
  all_goals simp [sending, frame42, State.resetOf, asMaster]

/-- A master that reads a response of `len` bytes to identifier 42. -/
def reading (len : Nibble) : State :=
  { State.resetOf asMaster with
    exState := .awaitResponse, frameId := 42, lenValid := true, frameLen := len, txn := some (.read (len.toNat + 1)) }

theorem reading_exchange : ExchangeInv (reading 4) := by
  constructor
  · constructor <;> simp [reading, State.resetOf]
  all_goals simp [reading, State.resetOf, asMaster]
  all_goals decide

/-- A slave that reads the response to identifier 42. -/
def slaveReading : State := { answering with outcome := .none, txn := some (.read 5) }

theorem slaveReading_exchange : ExchangeInv slaveReading := by
  constructor
  · constructor <;> simp [slaveReading, answering, State.resetOf]
  all_goals simp [slaveReading, answering, State.resetOf, asSlave]
  all_goals decide

/-- A slave whose poll is outstanding. -/
def polling (sync : Bool) : State := { hunting sync with txn := some (.read 1) }

theorem polling_exchange (sync : Bool) : ExchangeInv (polling sync) := by
  constructor
  · constructor <;> simp [polling, hunting, State.resetOf]
  all_goals simp [polling, hunting, State.resetOf, asSlave]

theorem witness_decoding_a_sequence :
    (∀ i ∈ [Instr.send, .cancel], i.wellFormed = true) ∧ decodeAll [0x01#8, 0x04#8] = .ok [.send, .cancel] := by decide

theorem witness_illegal_reserved : 5 ≤ (0x05#8).toNat ∧ 5 ≤ (0xFF#8).toNat := by decide
theorem witness_illegal_slave : (State.resetOf asSlave).cfg.role = .slave ∧ decodeByte 0x01#8 = .ok .send := by decide
theorem witness_illegal_master :
    (State.resetOf asMaster).cfg.role = .master ∧ decodeByte 0x02#8 = .ok .wait ∧ decodeByte 0x03#8 = .ok .complete ∧
    decodeByte 0x04#8 = .ok .cancel := by decide

theorem witness_step_scheduled : (withNext .engine sending).inputs = .engine :: [] := by decide
theorem witness_step_free : sending.inputs = [] := by decide
theorem witness_step_decoded :
    decodeByte 0x01#8 = .ok .send ∧ (withNext (.hostWrite 0x00#5 0x01#8) State.reset).inputs = .hostWrite 0x00#5 0x01#8 :: [] := by
  decide
theorem witness_step_decoded_line :
    decodeByte 0x04#8 = .ok .cancel ∧
    ({ withNext .hostLine State.reset with hostProg := [.wr 0x00#5 0x04#8] } : State).hostProg = .wr 0x00#5 0x04#8 :: [] ∧
    ({ withNext .hostLine State.reset with hostProg := [.wr 0x00#5 0x04#8] } : State).inputs = .hostLine :: [] := by decide

theorem witness_not_enabled :
    enabled .engine State.reset = false ∧ enabled .hostLine State.reset = false ∧ enabled .deadline State.reset = false ∧
    enabled (.answer .ok) State.reset = false ∧ enabled (.answer .ok) (polling true) = false ∧
    enabled (.answer (.bytes [])) { State.reset with txn := some (.write .header [0x80]) } = false := by decide

theorem witness_addresses_data : (0x10#5).toNat = 0x10 + (0 : Fin 8).val ∧ (0x17#5).toNat = 0x10 + (7 : Fin 8).val := by decide
theorem witness_addresses_reserved :
    (0x0A ≤ (0x0A#5).toNat ∧ (0x0A#5).toNat ≤ 0x0F) ∧ (0x0A ≤ (0x0F#5).toNat ∧ (0x0F#5).toNat ≤ 0x0F) ∧
    0x18 ≤ (0x18#5).toNat ∧ 0x18 ≤ (0x1F#5).toNat := by decide

theorem witness_frame_write_locked :
    addrOf .frameId = some 0x03#5 ∧ accessOf .frameId = .readWrite ∧ busy sending = true := by decide
theorem witness_frame_write_stored :
    addrOf (.data 7) = some 0x17#5 ∧ accessOf (.data 7) = .readWrite ∧ addrOf .frameCtl = some 0x04#5 ∧
    accessOf .frameCtl = .readWrite ∧ busy State.reset = false ∧ Reg.hdrPid ≠ .data 7 ∧ Reg.hdrPid ≠ .pidView ∧
    Reg.hdrPid ≠ .cksumView := by decide

theorem witness_ignored_writes :
    (0x01#5).toNat = 1 ∧ (0x02#5).toNat = 2 ∧ (6 ≤ (0x06#5).toNat ∧ (0x06#5).toNat ≤ 0x0F) ∧
    (6 ≤ (0x0F#5).toNat ∧ (0x0F#5).toNat ≤ 0x0F) ∧ 0x18 ≤ (0x18#5).toNat ∧ 0x18 ≤ (0x1F#5).toNat := by decide

theorem witness_busy_host_event :
    busy (polling true) = true ∧ hostEvent (cmd 0x04) = true ∧
    ∃ t, act (cmd 0x04) (polling true) = .next t ∧ t.outcome = .cancelled := ⟨by decide, by decide, _, rfl, rfl⟩

theorem witness_host_lines :
    ({ State.reset with hostProg := [.wr 0x03#5 0x2A#8] } : State).hostProg = .wr 0x03#5 0x2A#8 :: [] ∧
    ({ State.reset with hostProg := [.rd 0x06#5] } : State).hostProg = .rd 0x06#5 :: [] := by decide
theorem witness_poll_done :
    ({ State.reset with hostProg := [.poll 0x01#5 0x08#8 0x00#8] } : State).hostProg = .poll 0x01#5 0x08#8 0x00#8 :: [] ∧
    rd 0x01#5 { State.reset with hostProg := [.poll 0x01#5 0x08#8 0x00#8] } &&& 0x08#8 = 0x00#8 := by decide
theorem witness_poll_waits :
    ({ sending with hostProg := [.poll 0x01#5 0x08#8 0x00#8] } : State).hostProg = .poll 0x01#5 0x08#8 0x00#8 :: [] ∧
    rd 0x01#5 { sending with hostProg := [.poll 0x01#5 0x08#8 0x00#8] } &&& 0x08#8 ≠ 0x00#8 := by decide

theorem witness_pid_ok : (pidOk 0x6A#8 = true ∧ idOf 0x6A#8 = 42#6) ∧ pid 42#6 = pid 42#6 := by decide
theorem witness_pid_view : busy State.reset = false := by decide

theorem witness_acc_sum_order : [1#8, 2#8].Perm [2#8, 1#8] := List.Perm.swap _ _ _
theorem witness_acc_sum_corners : 1 ≤ accSum [0xFF#8] ∧ accSum [0x00#8] = 0 := by decide

theorem witness_checksum_identifiers : 60 ≤ (60#6).toNat ∧ 60 ≤ (63#6).toNat ∧ (59#6).toNat < 60 := by decide
theorem witness_checksum_enhanced :
    (59#6).toNat < 60 ∧ Variant.enhanced = .enhanced ∧ asMaster.enhIdForm = .rawId ∧
    ({ asMaster with enhIdForm := .pid } : Config).enhIdForm = .pid := by decide
theorem witness_checksum_classic : Variant.classic = .classic := rfl

theorem witness_cksum_view_master :
    ({ frame42 asMaster with exState := .headerSent } : State).txn = none ∧
    ({ frame42 asMaster with exState := .headerSent } : State).exState = .headerSent ∧
    1 ≤ ({ frame42 asMaster with exState := .headerSent } : State).dataCount.toNat := by decide

/-- A slave whose COMPLETE of a frame of data 1, 2, 3, 4 is accepted. -/
def completing : State :=
  { frame42 asSlave with exState := .responsePending, hdrPid := 0x6A, pend := .complete }

theorem witness_cksum_view_slave :
    completing.exState = .responsePending ∧ completing.pend = .complete ∧ validateSlave completing = none ∧
    1 ≤ completing.dataCount.toNat ∧ hdrIdent completing = frameIdent completing := by decide

theorem witness_validation_identifier : (State.reset).frameId.toNat ≤ 63 := by decide
theorem witness_one_direction :
    (validateSlave completing = none ∧ direction completing = .transmit) ∧
    (validateSlave answering = none ∧ direction answering = .receive 4) ∧
    (validateSlave State.reset = none ∧ direction State.reset = .silent) := by decide

theorem witness_accepted_send :
    busy State.reset = false ∧ (State.reset).cfg.role = .master ∧ (State.reset).exState = .idle ∧
    exec .send State.reset = .next { State.reset with pend := .send } ∧
    ({ State.reset with pend := .send } : State).pend ≠ .none := ⟨by decide, rfl, rfl, rfl, by decide⟩
theorem witness_accepted_wait :
    busy (State.resetOf asSlave) = false ∧ (State.resetOf asSlave).cfg.role = .slave ∧
    (State.resetOf asSlave).exState = .idle := by decide
theorem witness_accepted_complete :
    busy answering = false ∧ answering.cfg.role = .slave ∧ answering.exState = .responsePending := by decide

/-- A slave that has accepted a WAIT. -/
def waiting : State := { State.resetOf asSlave with pend := .wait }

theorem witness_cancel_pending : waiting.cfg.role = .slave ∧ waiting.pend = .wait := by decide
theorem witness_cancel_hunt :
    (polling true).cfg.role = .slave ∧ (polling true).pend ≠ .wait ∧ (polling true).exState = .awaitHeader := by decide
theorem witness_cancel_elsewhere :
    answering.cfg.role = .slave ∧ answering.pend ≠ .wait ∧ answering.exState ≠ .awaitHeader := by decide
theorem witness_cancel_master : (State.reset).cfg.role = .master := by decide

theorem witness_wrong_state_send : (reading 4).cfg.role = .master ∧ (reading 4).exState ≠ .idle ∧ busy sending = true := by decide
theorem witness_wrong_state_wait : answering.cfg.role = .slave ∧ answering.exState ≠ .idle ∧ busy waiting = true := by decide
theorem witness_wrong_state_complete :
    waiting.cfg.role = .slave ∧ waiting.exState ≠ .responsePending ∧ busy completing = true := by decide

theorem witness_send_start :
    sending.exState = .idle ∧ sending.pend = .send ∧ validateMaster sending = none ∧
    validateMaster { sending with frameId := 64 } = some .invalidIdentifier := by decide

theorem witness_write_answer_header :
    ({ frame42 asMaster with exState := .headerSent, txn := some (.write .header [0x6A]) } : State).exState = .headerSent ∧
    ({ frame42 asMaster with exState := .headerSent, txn := some (.write .header [0x6A]) } : State).txn =
      some (.write .header [0x6A]) := by decide
theorem witness_write_answer_response :
    ({ completing with pend := .none, txn := some (.write .response [1, 2, 3, 4, 0xF5]) } : State).exState = .responsePending ∧
    ({ completing with pend := .none, txn := some (.write .response [1, 2, 3, 4, 0xF5]) } : State).txn =
      some (.write .response ([1, 2, 3, 4] ++ [0xF5])) := by decide

theorem witness_dispatch :
    (∀ s ∈ [frame42 asMaster, reading 4, State.reset],
      ({ s with exState := .headerSent, txn := none } : State).exState = .headerSent) ∧
    direction (frame42 asMaster) = .transmit ∧ direction (reading 4) = .receive 4 ∧ direction State.reset = .silent := by decide

theorem witness_response_read_master :
    1 ≤ 8 ∧ 8 ≤ 8 ∧ (reading 8).txn = some (.read (8 + 1)) ∧ (reading 1).txn = some (.read (1 + 1)) ∧
    (reading 8).exState = .awaitResponse ∧ (reading 8).frameLen.toNat = 8 ∧ (reading 1).frameLen.toNat = 1 ∧
    42#6 = (reading 8).frameId.extractLsb' 0 6 := by decide
theorem witness_response_read_slave :
    slaveReading.txn = some (.read (4 + 1)) ∧ slaveReading.frameLen.toNat = 4 ∧ slaveReading.exState = .responsePending ∧
    42#6 = slaveReading.hdrPid.extractLsb' 0 6 := by decide
theorem witness_response_read_bytes :
    ([1, 2, 3, 4] : List Byte).length = 4 ∧ 0xF5#8 = frameCksum slaveReading.cfg 42#6 slaveReading.variant [1, 2, 3, 4] ∧
    0x00#8 ≠ frameCksum slaveReading.cfg 42#6 slaveReading.variant [1, 2, 3, 4] ∧ ([1] : List Byte).length ≠ 4 + 1 := by decide

theorem witness_master_transmit :
    (frame42 asMaster).cfg.role = .master ∧ (frame42 asMaster).exState = .idle ∧ busy (frame42 asMaster) = false ∧
    validateMaster (frame42 asMaster) = none ∧ direction (frame42 asMaster) = .transmit := by decide
theorem witness_invalid_send :
    (State.reset).cfg.role = .master ∧
    validateMaster { State.reset with dataCount := 9 } = some .payloadTooLarge ∧
    ({ State.reset with dataCount := 9 } : State).exState = .idle ∧ busy { State.reset with dataCount := 9 } = false := by decide

theorem witness_wait_start :
    waiting.exState = .idle ∧ waiting.pend = .wait ∧ (hunting false).exState = .awaitHeader ∧ (hunting false).txn = none := by decide
theorem witness_header_poll :
    (polling true).exState = .awaitHeader ∧ (polling true).txn = some (.read 1) ∧ (polling false).syncSeen = false ∧
    (polling true).syncSeen = true ∧ pidOk 0x6A#8 = true ∧ pidOk 0x2A#8 = false ∧
    ([] : List Byte).length ≠ 1 ∧ [0x55#8, 0x6A#8].length ≠ 1 := by decide
theorem witness_hunt :
    (∀ x ∈ [(([0x00#8] : List Byte), 0x2A#8)], 0x55#8 ∉ x.1 ∧ pidOk x.2 = false) ∧ 0x55#8 ∉ [0xAA#8] ∧
    pidOk 0x55#8 = true ∧ (hunting false).exState = .awaitHeader ∧ (hunting false).txn = none ∧
    (hunting false).syncSeen = false := by decide
theorem witness_wait_never_writes :
    ListedInv (polling true) ∧ (polling true).exState = .awaitHeader ∧
    ∃ t, act (.answer (.bytes [0x2A])) (polling true) = .next t ∧ Event.answer (.bytes [0x2A]) ≠ .reset ∧
      t.exState ≠ .responsePending :=
  ⟨(polling_exchange true).listed, rfl, _, rfl, by decide, by decide⟩
theorem witness_deadline : (polling false).exState = .awaitHeader ∧ answering.exState ≠ .awaitHeader := by decide

theorem witness_complete_start :
    completing.exState = .responsePending ∧ completing.pend = .complete ∧
    (validateSlave completing = none ∧ direction completing = .transmit) ∧
    validateSlave { completing with dataCount := 9 } = some .payloadTooLarge ∧
    (validateSlave { answering with pend := .complete } = none ∧ direction { answering with pend := .complete } = .receive 4) ∧
    (validateSlave { answering with lenValid := false } = none ∧ direction { answering with lenValid := false } = .silent) := by
  decide
theorem witness_frame_id_ignored_engine :
    completing.exState = .responsePending ∧ ∃ t, act .engine completing = .next t ∧ t.txn ≠ none := ⟨rfl, _, rfl, by decide⟩
theorem witness_frame_id_ignored_answer :
    slaveReading.exState = .responsePending ∧
    ∃ t, act (.answer (.bytes [1, 2, 3, 4, 0xF5])) slaveReading = .next t ∧ t.outcome = .completed := ⟨rfl, _, rfl, by decide⟩
/-- In a state that holds the code already the second clause has its premise too. -/
theorem witness_frame_id_ignored_code :
    ∃ t, act (.answer .ok) { slaveReading with errCode := .invalidIdentifier } = .next t ∧ t.errCode = .invalidIdentifier :=
  ⟨_, rfl, rfl⟩
theorem witness_verified_bytes_master :
    ExchangeInv (reading 4) ∧ (reading 4).txn = some (.read 5) ∧
    ∃ t, act (.answer (.bytes [1, 2, 3, 4, 0xF5])) (reading 4) = .next t ∧ t.exState = .complete :=
  ⟨reading_exchange, by decide, _, rfl, by decide⟩
theorem witness_verified_bytes_slave :
    ExchangeInv slaveReading ∧ slaveReading.txn = some (.read 5) ∧
    ∃ t, act (.answer (.bytes [1, 2, 3, 4, 0xF5])) slaveReading = .next t ∧ t.exState = .complete :=
  ⟨slaveReading_exchange, by decide, _, rfl, by decide⟩
theorem witness_round_trip :
    (frame42 asMaster).cfg.role = .master ∧ (frame42 asMaster).exState = .idle ∧ busy (frame42 asMaster) = false ∧
    validateMaster (frame42 asMaster) = none ∧ direction (frame42 asMaster) = .transmit ∧
    answering.cfg.role = .slave ∧ answering.exState = .responsePending ∧ busy answering = false ∧
    validateSlave answering = none ∧ direction answering = .receive (frame42 asMaster).dataCount ∧
    hdrIdent answering = frameIdent (frame42 asMaster) ∧ answering.variant = (frame42 asMaster).variant ∧
    answering.cfg.enhIdForm = (frame42 asMaster).cfg.enhIdForm := by decide

/-- COMPLETE and ERROR, as an exchange leaves them. -/
def ended (x : ExState) (o : ExOutcome) (c : ErrCode) : State :=
  { State.resetOf asMaster with exState := x, outcome := o, errCode := c }

theorem ended_listed : ListedInv (ended .error .failed .transportError) := by
  constructor <;> simp [ended, State.resetOf]

theorem witness_terminal :
    (ended .complete .completed .none).exState = .complete ∧ (ended .error .failed .timeout).exState = .error := by decide

theorem witness_error_identifier :
    ∃ t, act .engine { sending with frameId := 64 } = .next t ∧ t.errCode = .invalidIdentifier ∧ sending.errCode = .none :=
  ⟨_, rfl, by decide, by decide⟩
theorem witness_error_payload :
    ∃ t, act .engine { completing with dataCount := 9 } = .next t ∧ t.errCode = .payloadTooLarge ∧ completing.errCode = .none :=
  ⟨_, rfl, by decide, by decide⟩
theorem witness_error_checksum :
    ∃ t, act (.answer (.bytes [1, 2, 3, 4, 0])) (reading 4) = .next t ∧ t.errCode = .checksumMismatch ∧
      (reading 4).errCode = .none := ⟨_, rfl, by decide, by decide⟩
theorem witness_error_transport :
    ∃ t, act (.answer .ioError) (polling true) = .next t ∧ t.errCode = .transportError ∧ (polling true).errCode = .none :=
  ⟨_, rfl, by decide, by decide⟩
theorem witness_error_timeout :
    ∃ t, act .deadline (polling true) = .next t ∧ t.errCode = .timeout ∧ (polling true).errCode = .none :=
  ⟨_, rfl, by decide, by decide⟩
theorem witness_error_transport_length :
    ∃ t, act (.answer (.bytes [])) (polling true) = .next t ∧ t.errCode = .transportError := ⟨_, rfl, by decide⟩
theorem witness_error_incoherent :
    ∃ t, act .engine { sending with lenValid := true, frameLen := 3 } = .next t ∧ t.errCode = .frameIncoherent ∧
      sending.errCode = .none := ⟨_, rfl, by decide, by decide⟩
theorem witness_error_cleared :
    ∃ t, act (cmd 0x01) { frame42 asMaster with outcome := .failed, errCode := .timeout } = .next t ∧ t.errCode = .none :=
  ⟨_, rfl, by decide⟩
theorem witness_failure_entry :
    (polling true).exState ≠ .error ∧ ∃ t, act (.answer .ioError) (polling true) = .next t ∧ t.exState = .error :=
  ⟨by decide, _, rfl, by decide⟩
theorem witness_no_nesting :
    ListedInv (ended .error .failed .transportError) ∧ (ended .error .failed .transportError).exState = .error ∧
    Event.engine ≠ .reset ∧ ∃ t, act .engine (ended .error .failed .transportError) = .next t :=
  ⟨ended_listed, rfl, by decide, _, rfl⟩
theorem witness_hdr_pid_written :
    ∃ t, act (.answer (.bytes [0x6A])) (polling true) = .next t ∧ t.hdrPid ≠ (polling true).hdrPid := ⟨_, rfl, by decide⟩
theorem witness_frame_cksum_written :
    ∃ t, act (.answer (.bytes [1, 2, 3, 4, 0xF5])) (reading 4) = .next t ∧ t.frameCksum ≠ (reading 4).frameCksum :=
  ⟨_, rfl, by decide⟩
theorem witness_leaves_response_pending :
    (completing.exState = .responsePending ∧ ∃ t, act .engine { completing with dataCount := 9 } = .next t ∧
      t.exState ≠ .responsePending) ∧
    (slaveReading.exState = .responsePending ∧ ∃ t, act (.answer .ioError) slaveReading = .next t ∧
      t.exState ≠ .responsePending) ∧
    ∃ t, act .reset answering = .next t ∧ t.exState ≠ .responsePending :=
  ⟨⟨rfl, _, rfl, by decide⟩, ⟨rfl, _, rfl, by decide⟩, _, rfl, by decide⟩
theorem witness_hang :
    ListedInv (reading 4) ∧ (reading 4).txn ≠ none ∧ (reading 4).exState ≠ .awaitHeader ∧
    ∀ e ∈ [Event.engine, .deadline, cmd 0x01, .hostRead 0x01#5], e ≠ .reset ∧ ∀ a, e ≠ .answer a :=
  ⟨reading_exchange.listed, by decide, by decide, by simp [cmd]⟩

theorem witness_reset_event : ∃ t, act .reset (polling true) = .next t ∧ t.txn = none := ⟨_, rfl, rfl⟩

theorem witness_step_next : ∃ t, step (withNext .engine sending) = .next t := ⟨_, rfl⟩
theorem witness_listed : ListedInv sending := sending_exchange.listed
theorem witness_exchange_step : ExchangeInv (withNext .engine sending) ∧ ∃ t, step (withNext .engine sending) = .next t := by
  refine ⟨?_, _, rfl⟩
  constructor
  · constructor <;> simp [withNext, sending, frame42, State.resetOf]
  all_goals simp [withNext, sending, frame42, State.resetOf, asMaster]
theorem witness_bounds : ExchangeInv slaveReading ∧ slaveReading.txn = some (.read 5) := ⟨slaveReading_exchange, by decide⟩
theorem witness_quiescent : ExchangeInv (State.resetOf asSlave) := slave_reset_exchange

/-! ### A run that meets the premises of EverySendThatIsAnsweredEnds -/

/-- A master with an empty frame has accepted a SEND. -/
def run0 : State := { State.reset with pend := .send }
def run1 : State := { State.reset with exState := .headerSent, txn := some (.write .header [0x80]) }
def run2 : State := { State.reset with exState := .headerSent }
def run3 : State := { State.reset with exState := .complete, outcome := .completed }
def run4 : State := { State.reset with outcome := .completed }

/-- Start step, answer, dispatch, terminal step, and the engine's idle turns. -/
def runEvent : Nat → Event
  | 1 => .answer .ok
  | _ => .engine

def runState : Nat → State
  | 0 => run0
  | 1 => run1
  | 2 => run2
  | 3 => run3
  | _ => run4

theorem witness_send_ends :
    EventRun runEvent runState ∧ EngineFair runEvent runState ∧ TransportAnswers runEvent runState ∧
    (∀ n, runEvent n ≠ .reset) ∧ ExchangeInv (runState 0) ∧ (runState 0).pend = .send := by
  refine ⟨?_, ?_, ?_, ?_, ?_, rfl⟩
  · intro n
    match n with
    | 0 => rfl
    | 1 => rfl
    | 2 => rfl
    | 3 => rfl
    | k + 4 => rfl
  · intro n _
    exact ⟨n + 2, by omega, rfl⟩
  · intro n h
    exact absurd rfl (h (n + 4) (by omega))
  · intro n
    match n with
    | 0 => decide
    | 1 => decide
    | k + 2 => simp [runEvent]
  · constructor
    · constructor <;> simp [runState, run0, State.reset, State.resetOf]
    all_goals simp [runState, run0, State.reset, State.resetOf]

end Sys2Proof.Tests
end

/-! # Proofs: the fields of STATUS and RESULT, and the addresses that ignore writes

The statements of 10_state.md. The two bytes are concatenations of their fields, so each field is read back by peeling
the concatenation (R23, R24); a write is ignored by what the register map says of its register (R21, R34). -/

section
namespace Sys2Proof.Machine

/-! ### STATUS (R23) -/

theorem statusByte_state (s : State) : (statusByte s).extractLsb' 0 3 = stateCode s.exState :=
  BitVec.extractLsb'_append_eq_right

theorem statusByte_busy (s : State) : (statusByte s).getLsbD 3 = busy s := by
  rw [statusByte, BitVec.getLsbD_append, BitVec.getLsbD_append]
  simp

theorem statusByte_rejCause (s : State) : (statusByte s).extractLsb' 4 2 = rejCauseCode s.rejCause := by
  unfold statusByte
  rw [BitVec.extractLsb'_append_eq_of_le (by decide), BitVec.extractLsb'_append_eq_of_le (by decide)]
  exact BitVec.extractLsb'_append_eq_right

theorem statusByte_reserved (s : State) : (statusByte s).extractLsb' 6 2 = 0 := by
  unfold statusByte
  rw [BitVec.extractLsb'_append_eq_of_le (by decide), BitVec.extractLsb'_append_eq_of_le (by decide)]
  exact BitVec.extractLsb'_append_eq_left

/-! ### RESULT (R24) -/

theorem resultByte_outcome (s : State) : (resultByte s).extractLsb' 0 3 = outcomeCode s.outcome :=
  BitVec.extractLsb'_append_eq_right

theorem resultByte_errCode (s : State) : (resultByte s).extractLsb' 3 3 = errCodeBits s.errCode := by
  unfold resultByte
  rw [BitVec.extractLsb'_append_eq_of_le (by decide)]
  exact BitVec.extractLsb'_append_eq_right

theorem resultByte_reserved (s : State) : (resultByte s).extractLsb' 6 2 = 0 := by
  unfold resultByte
  rw [BitVec.extractLsb'_append_eq_of_le (by decide)]
  exact BitVec.extractLsb'_append_eq_left

/-! ### BUSY (R41) -/

theorem busyState_eq_true_iff (x : ExState) :
    busyState x = true ↔ x = .headerSent ∨ x = .awaitResponse ∨ x = .awaitHeader := by
  cases x <;> simp [busyState]

theorem busy_eq_true_iff (s : State) :
    busy s = true ↔
      s.pend ≠ .none ∨ s.txn ≠ none ∨
        s.exState = .headerSent ∨ s.exState = .awaitResponse ∨ s.exState = .awaitHeader := by
  simp [busy, busyState_eq_true_iff, Option.isSome_iff_ne_none, or_assoc]

/-- Settles O9: each field is peeled off its byte, and its code is the one the statement lists. -/
theorem statusAndResultHoldTheirFields : Obligations.StatusAndResultHoldTheirFields := by
  intro s
  have status : readReg (regAt 0x01) s = statusByte s := rfl
  have result : readReg (regAt 0x02) s = resultByte s := rfl
  rw [status, result, statusByte_state, statusByte_busy, statusByte_rejCause, resultByte_outcome, resultByte_errCode]
  refine ⟨?state, busy_eq_true_iff s, ?rejCause, statusByte_reserved s, ?outcome, ?errCode, resultByte_reserved s⟩
  case state => cases s.exState <;> rfl
  case rejCause => cases s.rejCause <;> rfl
  case outcome => cases s.outcome <;> rfl
  case errCode => cases s.errCode <;> rfl

/-! ### The addresses that ignore writes (R21, R34) -/

/-- The addresses of the read-only registers and the reserved ones, in the register map (R21). -/
theorem accessOf_regAt_not_writable :
    ∀ a : Addr, a.toNat = 1 ∨ a.toNat = 2 ∨ (6 ≤ a.toNat ∧ a.toNat ≤ 0x0F) ∨ 0x18 ≤ a.toNat →
      accessOf (regAt a) = .readOnly ∨ accessOf (regAt a) = .noAccess := by
  decide

/-- A write to a register the host may not write has no effect (R34, R35). -/
theorem hostWrite_of_not_writable (a : Addr) (v : Byte) (s : State)
    (h : accessOf (regAt a) = .readOnly ∨ accessOf (regAt a) = .noAccess) : hostWrite a v s = .next s := by
  unfold hostWrite
  cases hr : regAt a <;> simp [hr, accessOf] at h ⊢

/-- Settles O12: writes by the access column of the register map, reads by the reserved addresses of it. -/
theorem readOnlyAndReservedAddressesIgnoreWrites : Obligations.ReadOnlyAndReservedAddressesIgnoreWrites := by
  intro s a v
  constructor
  · intro ha
    exact hostWrite_of_not_writable a v s (accessOf_regAt_not_writable a ha)
  · intro ha
    have hread : readReg (regAt a) s = 0x00#8 := by rw [regAt_reserved a ha]; rfl
    simp only [act, hostRead, hread]

end Sys2Proof.Machine
end

/-! # Proofs: the command byte, the pseudo-instructions and the PID

The statements of 30_encoding.md. A host write to CMD is decided by what its byte decodes to, and a decoded command by the
role column of R63; the bits of the PID are peeled off the concatenation that builds it (R70, R82). -/

section
namespace Sys2Proof.Machine

/-! ### Host writes to CMD (R64, R105) -/

theorem act_hostWrite_cmd (c : Byte) (s : State) : act (.hostWrite 0x00#5 c) s = commandWrite c s := rfl

theorem commandWrite_of_decodeByte_ok {c : Byte} {i : Instr} (h : decodeByte c = .ok i) (s : State) :
    commandWrite c s = exec i s := by
  simp only [commandWrite, h]

theorem commandWrite_of_decodeByte_error {c : Byte} {e : DecodeError} (h : decodeByte c = .error e) (s : State) :
    commandWrite c s = .next (reject .illegalCmd s) := by
  simp only [commandWrite, h]

theorem underRole_of_ne {r : Role} {s : State} (h : s.cfg.role ≠ r) (t : State) :
    underRole r t s = reject .illegalCmd s := if_neg h

theorem exec_send_of_slave {s : State} (h : s.cfg.role = .slave) : exec .send s = .next (reject .illegalCmd s) :=
  congrArg _ (underRole_of_ne (by simp [h]) _)

/-- WAIT, COMPLETE and CANCEL are outside a master's role (the role column of R63). -/
theorem exec_of_master {i : Instr} {s : State} (h : s.cfg.role = .master)
    (hi : i = .wait ∨ i = .complete ∨ i = .cancel) : exec i s = .next (reject .illegalCmd s) := by
  have hne : s.cfg.role ≠ .slave := by simp [h]
  obtain rfl | rfl | rfl := hi
  all_goals exact congrArg _ (underRole_of_ne hne _)

/-- Settles O3: a reserved byte decodes to no command, and a command outside the role is refused by `underRole`. -/
theorem illegalCommandBytesAreRefused : Obligations.IllegalCommandBytesAreRefused := by
  intro s c h
  refine ⟨decodeByte_reserved c, ?_⟩
  rw [act_hostWrite_cmd]
  change commandWrite c s = .next (reject .illegalCmd s)
  obtain hc | ⟨hr, hc⟩ | ⟨hr, hc⟩ := h
  · exact commandWrite_of_decodeByte_error (decodeByte_reserved c hc) s
  · rw [commandWrite_of_decodeByte_ok hc, exec_send_of_slave hr]
  · obtain hc | hc | hc := hc
    all_goals rw [commandWrite_of_decodeByte_ok hc, exec_of_master hr (by simp)]

/-! ### The pseudo-instructions (R79) -/

/-- A pseudo-instruction named after a command writes that command's byte to CMD's address in the register map (R21). -/
theorem expandPseudo_command (i : Instr) : expandPseudo (.command i) = [.wr 0x00#5 (encodeByte i)] := rfl

/-- Settles O15: the five commands by `expandPseudo_command`, the other rows and the addresses as the tables give them. -/
theorem pseudoInstructionsExpandAsListed : Obligations.PseudoInstructionsExpandAsListed :=
  ⟨expandPseudo_command .nop, expandPseudo_command .send, expandPseudo_command .wait, expandPseudo_command .complete,
    expandPseudo_command .cancel, rfl, rfl, fun _ _ _ => rfl, rfl, rfl, rfl, rfl, rfl⟩

/-! ### The PID (R70, R81, R82) -/

theorem pid_getLsbD_low (id : Ident) {k : Nat} (h : k < 6) : (pid id).getLsbD k = id.getLsbD k := by
  rw [pid, BitVec.getLsbD_append, if_pos h]

theorem pid_getLsbD_six (id : Ident) : (pid id).getLsbD 6 = parityP0 id := by
  rw [pid, BitVec.getLsbD_append, BitVec.getLsbD_append]
  simp

theorem pid_getLsbD_seven (id : Ident) : (pid id).getLsbD 7 = parityP1 id := by
  rw [pid, BitVec.getLsbD_append, BitVec.getLsbD_append]
  simp

/-- Settles O16: each bit is peeled off the concatenation, and the two parity bits are the formulas of R81. -/
theorem pidCarriesTheIdentifierAndItsParity : Obligations.PidCarriesTheIdentifierAndItsParity := by
  intro id
  refine ⟨fun k => pid_getLsbD_low id, ?_, ?_⟩
  · rw [pid_getLsbD_six, parityP0]
  · rw [pid_getLsbD_seven, parityP1]

end Sys2Proof.Machine
end

/-! # Proofs: the parity check and PID_VIEW

The statements of 40_parity.md. `idOf` is a left inverse of `pid`, so a byte that passes the check is the PID of one
identifier only (R84, R86); PID_VIEW is a function of FRAME_ID, so it shows what the last stored write put there (R85). -/

section
namespace Sys2Proof.Machine

/-! ### The parity check (R84) -/

theorem pidOk_eq_true_iff (b : Byte) : pidOk b = true ↔ b = pid (idOf b) := beq_iff_eq

theorem pidOk_pid (id : Ident) : pidOk (pid id) = true := by
  rw [pidOk_eq_true_iff, idOf_pid]

/-- Settles O17: `pid` and `idOf` undo each other on the bytes that pass the check; the three corner bytes are computed. -/
theorem pidOkExactlyForThePids : Obligations.PidOkExactlyForThePids := by
  refine ⟨fun b id => ⟨?only, ?passes⟩, by decide, by decide, by decide⟩
  case only =>
    rintro ⟨hb, rfl⟩
    exact (pidOk_eq_true_iff b).mp hb
  case passes =>
    rintro rfl
    exact ⟨pidOk_pid id, idOf_pid id⟩

/-! ### Host writes to a frame register, and PID_VIEW (R85, R110) -/

theorem writeFrameReg_of_not_busy {s : State} (h : busy s = false) (r : Reg) (v : Byte) :
    writeFrameReg r v s = storeReg r v s := if_neg (by simp [h])

theorem act_hostWrite_frameId (v : Byte) (s : State) :
    act (.hostWrite 0x03#5 v) s = .next (writeFrameReg .frameId v s) := rfl

theorem readReg_pidView (s : State) : readReg (regAt 0x06) s = pid (s.frameId.extractLsb' 0 6) := by
  rw [idOf_eq_extract]
  rfl

/-- Settles O18: the view's equation holds in every state, so also in the one where FRAME_ID has just been stored. -/
theorem pidViewFollowsFrameId : Obligations.PidViewFollowsFrameId := by
  intro s v
  refine ⟨readReg_pidView s, fun idle => ⟨storeReg .frameId v s, ?stored, ?shown⟩⟩
  case stored => rw [act_hostWrite_frameId, writeFrameReg_of_not_busy idle]
  case shown => exact readReg_pidView (storeReg .frameId v s)

end Sys2Proof.Machine
end

/-! # Proofs: the bytes the checksum is taken over, its check, and CKSUM_VIEW

The statements of 41_checksum.md. The variant in effect alone selects the bytes (R92, R93); a response is split into its
data and its last byte (R96); a transmit issues the payload and then the checksum that CKSUM_VIEW shows (R75, R95). -/

section
namespace Sys2Proof.Machine

/-! ### The selected bytes (R91 to R93) -/

theorem effVariant_of_le {id : Ident} (h : 60 ≤ id.toNat) (v : Variant) : effVariant id v = .classic := if_pos h

theorem effVariant_of_lt {id : Ident} (h : id.toNat < 60) (v : Variant) : effVariant id v = v := if_neg (by omega)

theorem effVariant_classic (id : Ident) : effVariant id .classic = .classic := ite_self _

theorem frameCksum_of_classic {id : Ident} {v : Variant} (h : effVariant id v = .classic) (c : Config) (d : List Byte) :
    frameCksum c id v d = checksum d := by
  simp only [frameCksum, h, classicInput]

theorem frameCksum_of_enhanced {id : Ident} {v : Variant} (h : effVariant id v = .enhanced) (c : Config)
    (d : List Byte) : frameCksum c id v d = checksum (idByte c id :: d) := by
  simp only [frameCksum, h, enhancedInput]

theorem idByte_of_rawId {c : Config} (h : c.enhIdForm = .rawId) (id : Ident) : idByte c id = id.setWidth 8 := by
  simp only [idByte, h]

theorem idByte_of_pid {c : Config} (h : c.enhIdForm = .pid) (id : Ident) : idByte c id = pid id := by
  simp only [idByte, h]

/-- The table of R91: the identifiers below 60 whose two parity bits are both 0. -/
theorem pid_eq_setWidth_iff_listed :
    ∀ id : Ident, id.toNat < 60 →
      (pid id = id.setWidth 8 ↔ id.toNat ∈ [3, 6, 8, 13, 17, 20, 26, 31, 32, 37, 43, 46, 50, 55, 57]) := by
  decide

/-- Settles O21: the variant in effect selects the bytes, ENH_ID_FORM the byte before the data. -/
theorem theChecksumIsTakenOverTheSelectedBytes : Obligations.TheChecksumIsTakenOverTheSelectedBytes := by
  intro c id v d
  refine ⟨?diagnostic, fun h => effVariant_of_lt h v, ?classic, ?rawId, ?pid, pid_eq_setWidth_iff_listed id⟩
  case diagnostic =>
    intro h
    have hv := effVariant_of_le h v
    exact ⟨hv, frameCksum_of_classic hv c d⟩
  case classic =>
    rintro rfl
    exact frameCksum_of_classic (effVariant_classic id) c d
  case rawId =>
    rintro h rfl hc
    rw [frameCksum_of_enhanced (effVariant_of_lt h _), idByte_of_rawId hc]
  case pid =>
    rintro h rfl hc
    rw [frameCksum_of_enhanced (effVariant_of_lt h _), idByte_of_pid hc]

/-! ### The check of a received response (R96) -/

theorem cksumMatch_append_byte (c : Config) (id : Ident) (v : Variant) (d : List Byte) (k : Byte) :
    cksumMatch c id v (d ++ [k]) = (k == frameCksum c id v d) := by
  simp only [cksumMatch, List.getLast?_concat, List.dropLast_concat]

/-- Settles O22: the byte after the data is the one compared. -/
theorem aResponseVerifiesByByteEquality : Obligations.AResponseVerifiesByByteEquality := by
  intro c id v d k
  rw [cksumMatch_append_byte, beq_iff_eq]

/-! ### CKSUM_VIEW and the byte a transmit sends last (R75, R95) -/

theorem payload_eq_take_min (s : State) : payload s = s.data.toList.take (min s.dataCount.toNat 8) := by
  rw [payload, List.take_eq_take_min, Vector.length_toList]

theorem readReg_cksumView (s : State) : readReg (regAt 0x07) s = cksumView s := rfl

theorem responseBytes_getLast? (id : Ident) (s : State) :
    (responseBytes id s).getLast? = some (frameCksum s.cfg id s.variant (payload s)) :=
  List.getLast?_concat

/-- The view takes its identifier from FRAME_ID. -/
theorem responseBytes_getLast?_eq_cksumView {id : Ident} {s : State} (h : id = frameIdent s) :
    (responseBytes id s).getLast? = some (cksumView s) := by
  rw [responseBytes_getLast?, h, cksumView]

theorem direction_of_data {s : State} (h : 1 ≤ s.dataCount.toNat) : direction s = .transmit := if_pos h

/-- A master with data dispatches the response write (R111, R122, R123). -/
theorem act_engine_of_headerSent_transmit {s : State} (hx : s.exState = .headerSent) (ht : s.txn = none)
    (hd : direction s = .transmit) : act .engine s = .next (issue (responseRequest (frameIdent s) s) s) := by
  have turn : engineTurn s = responseDispatch s := by simp only [engineTurn, engineStep?, hx, ht, Option.getD_some]
  have dispatch : responseDispatch s = masterTransmit s := by simp only [responseDispatch, hd]
  exact congrArg Host.Outcome.next (turn.trans dispatch)

/-- A COMPLETE of a valid frame with data issues the response write (R111, R142, R144). -/
theorem act_engine_of_complete_transmit {s : State} (hx : s.exState = .responsePending) (hp : s.pend = .complete)
    (hv : validateSlave s = none) (hd : direction s = .transmit) :
    act .engine s = .next (issue (responseRequest (hdrIdent s) s) { s with pend := .none }) := by
  have turn : engineTurn s = completeStart s := by simp only [engineTurn, engineStep?, hx, hp, Option.getD_some]
  have start : completeStart s = slaveTransmit { s with pend := .none } := by simp only [completeStart, hv, hd]
  exact congrArg Host.Outcome.next (turn.trans start)

/-- Settles O23: both transmits issue `responseBytes`, whose last byte is the view's for the identifier of FRAME_ID. -/
theorem cksumViewIsTheByteATransmitSendsLast : Obligations.CksumViewIsTheByteATransmitSendsLast := by
  intro s
  rw [readReg_cksumView]
  refine ⟨?view, ?master, ?slave⟩
  case view => rw [idOf_eq_extract, ← payload_eq_take_min, cksumView, frameIdent]
  case master =>
    intro hx ht hn
    exact ⟨_, _, act_engine_of_headerSent_transmit hx ht (direction_of_data hn), issue_txn _ _,
      responseBytes_getLast?_eq_cksumView rfl⟩
  case slave =>
    intro hx hp hv hn hid
    exact ⟨_, _, act_engine_of_complete_transmit hx hp hv (direction_of_data hn), issue_txn _ _,
      responseBytes_getLast?_eq_cksumView hid⟩

end Sys2Proof.Machine
end

/-! # Proofs: validation and the exchange direction

The statements of 42_frame_validation.md. Two predicates say what is wrong with a frame's sizes: `TooLarge`, what the data
and length checks find (R99, R100), and `Incoherent`, what the coherence check finds (R101). Slave validation reports the
first of them that holds, and master validation puts the identifier check before it (R102). -/

section
namespace Sys2Proof.Machine

/-! ### The checks after the identifier's (R99 to R101) -/

/-- The data or a set length exceeds 8 bytes (R99, R100). -/
def TooLarge (s : State) : Prop :=
  s.dataCount.toNat > 8 ∨ (s.lenValid = true ∧ s.frameLen.toNat > 8)

/-- A set length is 0, or is not that of the data there is (R101). -/
def Incoherent (s : State) : Prop :=
  s.lenValid = true ∧ (s.frameLen.toNat = 0 ∨ (1 ≤ s.dataCount.toNat ∧ s.frameLen.toNat ≠ s.dataCount.toNat))

theorem checkCoherence_eq_some_iff (s : State) : checkCoherence s = some .frameIncoherent ↔ Incoherent s := by
  constructor
  · intro h
    simpa only [Incoherent, BitVec.toNat_ne] using (checkCoherence_some s _ h).2
  · rintro ⟨hv, hlen | ⟨hdata, hne⟩⟩
    · exact if_pos ⟨hv, hlen⟩
    · have disagree := And.intro hdata (And.intro hv (BitVec.toNat_ne.mpr hne))
      rw [checkCoherence, if_pos disagree, ite_self]

theorem checkCoherence_of_not_incoherent {s : State} (h : ¬ Incoherent s) : checkCoherence s = none := by
  rw [Option.eq_none_iff_forall_ne_some]
  intro c hc
  obtain ⟨rfl, -⟩ := checkCoherence_some s c hc
  exact h ((checkCoherence_eq_some_iff s).mp hc)

/-! ### Slave validation (R102) -/

theorem validateSlave_of_tooLarge {s : State} (h : TooLarge s) : validateSlave s = some .payloadTooLarge := by
  by_cases hd : s.dataCount.toNat > 8
  · rw [validateSlave, checkData, if_pos hd, firstFailure]
  · have hl := h.resolve_left hd
    rw [validateSlave, checkData, if_neg hd, checkLength, if_pos hl, firstFailure, firstFailure]

theorem validateSlave_of_not_tooLarge {s : State} (h : ¬ TooLarge s) : validateSlave s = checkCoherence s := by
  obtain ⟨hd, hl⟩ := not_or.mp h
  rw [validateSlave, checkData, if_neg hd, checkLength, if_neg hl]
  cases hc : checkCoherence s <;> rfl

theorem validateSlave_eq_payloadTooLarge_iff (s : State) : validateSlave s = some .payloadTooLarge ↔ TooLarge s := by
  refine ⟨fun h => ?_, validateSlave_of_tooLarge⟩
  obtain ⟨-, large⟩ | ⟨code, -⟩ := validateSlave_cause s _ h
  · exact large
  · cases code

theorem validateSlave_eq_frameIncoherent_iff (s : State) :
    validateSlave s = some .frameIncoherent ↔ ¬ TooLarge s ∧ Incoherent s := by
  by_cases h : TooLarge s
  · simp [validateSlave_of_tooLarge h, h]
  · simp [validateSlave_of_not_tooLarge h, h, checkCoherence_eq_some_iff]

theorem validateSlave_eq_none_iff (s : State) : validateSlave s = none ↔ ¬ TooLarge s ∧ ¬ Incoherent s := by
  by_cases h : TooLarge s
  · simp [validateSlave_of_tooLarge h, h]
  · rw [validateSlave_of_not_tooLarge h]
    refine ⟨fun hc => ⟨h, fun hi => ?_⟩, fun hi => checkCoherence_of_not_incoherent hi.2⟩
    rw [(checkCoherence_eq_some_iff s).mpr hi] at hc
    cases hc

/-! ### Master validation (R98, R102) -/

theorem validateMaster_of_lt {s : State} (h : 63 < s.frameId.toNat) : validateMaster s = some .invalidIdentifier := by
  rw [validateMaster, checkId, if_pos h, firstFailure]

theorem validateMaster_of_le {s : State} (h : s.frameId.toNat ≤ 63) : validateMaster s = validateSlave s := by
  rw [validateMaster, checkId, if_neg (Nat.not_lt.mpr h), firstFailure, validateSlave]

theorem validateSlave_ne_invalidIdentifier (s : State) : validateSlave s ≠ some .invalidIdentifier := by
  intro h
  obtain code | code := validateSlave_code s _ h
  all_goals cases code

theorem validateMaster_eq_invalidIdentifier_iff (s : State) :
    validateMaster s = some .invalidIdentifier ↔ s.frameId.toNat > 63 := by
  refine ⟨fun h => ?_, validateMaster_of_lt⟩
  by_contra hid
  rw [validateMaster_of_le (Nat.not_lt.mp hid)] at h
  exact validateSlave_ne_invalidIdentifier s h

/-- Every result but the identifier check's is slave validation's, for an identifier that passes. -/
theorem validateMaster_eq_iff (s : State) {r : Option ErrCode} (hr : r ≠ some .invalidIdentifier) :
    validateMaster s = r ↔ s.frameId.toNat ≤ 63 ∧ validateSlave s = r := by
  by_cases hid : s.frameId.toNat ≤ 63
  · simp [validateMaster_of_le hid, hid]
  · simp [validateMaster_of_lt (Nat.not_le.mp hid), hid, hr.symm]

/-- Settles O24: the identifier check comes first, and every other result is slave validation's, whose FRAME_ID is free. -/
theorem masterValidationGivesTheFirstFailure : Obligations.MasterValidationGivesTheFirstFailure := by
  intro s
  refine ⟨validateMaster_eq_invalidIdentifier_iff s, ?tooLarge, ?incoherent, ?ok,
    fun h => (validateMaster_of_le h).symm, fun _ => validateSlave_congr rfl rfl rfl⟩
  case tooLarge =>
    exact (validateMaster_eq_iff s (by decide)).trans (and_congr_right' (validateSlave_eq_payloadTooLarge_iff s))
  case incoherent =>
    exact (validateMaster_eq_iff s (by decide)).trans (and_congr_right' (validateSlave_eq_frameIncoherent_iff s))
  case ok =>
    exact (validateMaster_eq_iff s (by decide)).trans (and_congr_right' (validateSlave_eq_none_iff s))

/-! ### The direction (R103) -/

theorem direction_of_length {s : State} (hd : s.dataCount.toNat = 0) (hv : s.lenValid = true) :
    direction s = .receive s.frameLen := by
  rw [direction, if_neg (by omega), if_pos hv]

theorem direction_of_empty {s : State} (hd : s.dataCount.toNat = 0) (hv : s.lenValid = false) : direction s = .silent := by
  rw [direction, if_neg (by omega), if_neg (by simp [hv])]

theorem direction_eq_transmit_iff (s : State) : direction s = .transmit ↔ 1 ≤ s.dataCount.toNat := by
  refine ⟨fun h => ?_, direction_of_data⟩
  by_contra hd
  cases hv : s.lenValid
  · simp [direction_of_empty (by omega) hv] at h
  · simp [direction_of_length (by omega) hv] at h

theorem direction_eq_receive_iff (s : State) (len : Nibble) :
    direction s = .receive len ↔ s.dataCount.toNat = 0 ∧ s.lenValid = true ∧ s.frameLen = len := by
  constructor
  · intro h
    obtain ⟨hlen, hv, hd⟩ := direction_receive_len s len h
    exact ⟨hd, hv, hlen⟩
  · rintro ⟨hd, hv, rfl⟩
    exact direction_of_length hd hv

theorem direction_eq_silent_iff (s : State) :
    direction s = .silent ↔ s.dataCount.toNat = 0 ∧ s.lenValid = false := by
  refine ⟨fun h => ?_, fun ⟨hd, hv⟩ => direction_of_empty hd hv⟩
  by_cases hd : 1 ≤ s.dataCount.toNat
  · simp [direction_of_data hd] at h
  · cases hv : s.lenValid
    · exact ⟨by omega, rfl⟩
    · simp [direction_of_length (by omega) hv] at h

/-! ### What a valid frame bounds (R99 to R101) -/

theorem dataCount_le_of_validateSlave {s : State} (h : validateSlave s = none) : s.dataCount.toNat ≤ 8 := by
  obtain ⟨small, -⟩ := (validateSlave_eq_none_iff s).mp h
  exact Nat.not_lt.mp fun hd => small (.inl hd)

theorem frameLen_bounds_of_validateSlave {s : State} (h : validateSlave s = none) (hv : s.lenValid = true) :
    1 ≤ s.frameLen.toNat ∧ s.frameLen.toNat ≤ 8 := by
  obtain ⟨small, coherent⟩ := (validateSlave_eq_none_iff s).mp h
  exact ⟨Nat.pos_of_ne_zero fun h0 => coherent ⟨hv, .inl h0⟩, Nat.not_lt.mp fun hl => small (.inr ⟨hv, hl⟩)⟩

/-- Settles O25: the direction by its three equivalences, the 1 to 8 bytes by what validation bounds. -/
theorem aValidFrameHasOneDirection : Obligations.AValidFrameHasOneDirection := by
  intro s valid
  refine ⟨?transmit, fun len => ?receive, direction_eq_silent_iff s⟩
  case transmit =>
    rw [direction_eq_transmit_iff, and_iff_left (dataCount_le_of_validateSlave valid)]
  case receive =>
    rw [direction_eq_receive_iff]
    constructor
    · rintro ⟨hd, hv, rfl⟩
      exact ⟨hd, hv, rfl, frameLen_bounds_of_validateSlave valid hv⟩
    · rintro ⟨hd, hv, hlen, -⟩
      exact ⟨hd, hv, hlen⟩

end Sys2Proof.Machine
end

/-! # Proofs: frame-register writes, the commands, and the return to IDLE

The statements of 43_commands.md. A host write to a frame register runs `storeReg`, which is described once by the field
each register stands for (R110); a command of the node's role is what `admitCmd` or `cancelWait` answers (R106, R116); the
terminal step is the engine's in COMPLETE and ERROR (R111, R115). -/

section
namespace Sys2Proof.Machine

/-! ### What a store changes and what it leaves (R26 to R29, R110) -/

theorem storeReg_frameId_of_ne {r : Reg} (h : r ≠ .frameId) (v : Byte) (s : State) :
    (storeReg r v s).frameId = s.frameId := by
  cases r
  case frameId => exact absurd rfl h
  all_goals rfl

theorem frameCtlByte_storeReg_of_ne {r : Reg} (h : r ≠ .frameCtl) (v : Byte) (s : State) :
    frameCtlByte (storeReg r v s) = frameCtlByte s := by
  cases r
  case frameCtl => exact absurd rfl h
  all_goals rfl

theorem storeReg_frameLen_of_ne {r : Reg} (h : r ≠ .frameLen) (v : Byte) (s : State) :
    (storeReg r v s).frameLen = s.frameLen := by
  cases r
  case frameLen => exact absurd rfl h
  all_goals rfl

theorem storeReg_data_of_ne {r : Reg} {i : Fin 8} (h : r ≠ .data i) (v : Byte) (s : State) :
    (storeReg r v s).data[i] = s.data[i] := by
  cases r
  case data j => exact Vector.getElem_set_ne j.isLt i.isLt fun hj => h (congrArg Reg.data (Fin.ext hj))
  all_goals rfl

/-- A store does not reach the outside world (R7). -/
theorem storeReg_keeps_outside (r : Reg) (v : Byte) (s : State) :
    (storeReg r v s).inputs = s.inputs ∧ (storeReg r v s).hostProg = s.hostProg ∧
    (storeReg r v s).readOut = s.readOut ∧ (storeReg r v s).drawn = s.drawn := by
  cases r <;> simp [storeReg]

/-- A store is seen in its own register and in the two computed views only (R30, R31, R110). -/
theorem readReg_storeReg_of_ne {r r' : Reg} (hne : r' ≠ r) (hp : r' ≠ .pidView) (hc : r' ≠ .cksumView) (v : Byte)
    (s : State) : readReg r' (storeReg r v s) = readReg r' s := by
  obtain ⟨hx, hpend, htxn, -, ho, he, hrej, -, hpid, hck⟩ := storeReg_keeps r v s
  cases r' with
  | cmd => rfl
  | status => simp only [readReg, statusByte, hrej, hx, busy_congr hpend htxn hx]
  | result => simp only [readReg, resultByte, he, ho]
  | frameId => exact storeReg_frameId_of_ne hne.symm v s
  | frameCtl => exact frameCtlByte_storeReg_of_ne hne.symm v s
  | frameLen => exact congrArg (0#4 ++ ·) (storeReg_frameLen_of_ne hne.symm v s)
  | pidView => exact absurd rfl hp
  | cksumView => exact absurd rfl hc
  | hdrPid => exact hpid
  | frameCksum => exact hck
  | data i => exact storeReg_data_of_ne hne.symm v s
  | reserved => rfl

/-! ### What a stored register then reads (R27 to R29, R35) -/

theorem variantOf_eq_enhanced_iff (b : Bool) : variantOf b = .enhanced ↔ b = true := by
  cases b <;> simp [variantOf]

/-- FRAME_CTL taken apart into its fields and assembled again loses its two reserved bits. -/
theorem frameCtl_fields_append :
    ∀ v : Byte, 0#2 ++ variantBit (variantOf (v.getLsbD 5)) ++ BitVec.ofBool (v.getLsbD 4) ++ v.extractLsb' 0 4 =
      v &&& 0x3F#8 := by
  decide

theorem frameLen_field_append : ∀ v : Byte, 0#4 ++ v.extractLsb' 0 4 = v &&& 0x0F#8 := by decide

theorem readReg_storeReg_frameCtl (v : Byte) (s : State) :
    readReg .frameCtl (storeReg .frameCtl v s) = v &&& 0x3F#8 := frameCtl_fields_append v

theorem readReg_storeReg_frameLen (v : Byte) (s : State) :
    readReg .frameLen (storeReg .frameLen v s) = v &&& 0x0F#8 := frameLen_field_append v

theorem readReg_storeReg_data (i : Fin 8) (v : Byte) (s : State) :
    readReg (.data i) (storeReg (.data i) v s) = v := Vector.getElem_set_self _

/-! ### The host write (R110) -/

theorem writeFrameReg_of_busy {s : State} (h : busy s = true) (r : Reg) (v : Byte) :
    writeFrameReg r v s = reject .frameLocked s := if_pos h

theorem act_hostWrite_of_readWrite {r : Reg} {a : Addr} (ha : addrOf r = some a) (hr : accessOf r = .readWrite)
    (v : Byte) (s : State) : act (.hostWrite a v) s = .next (writeFrameReg r v s) := by
  rw [act, hostWrite, regAt_of_addrOf r a ha]
  cases r
  case frameId | frameCtl | frameLen => rfl
  case data i => rfl
  all_goals cases hr

/-- Settles O11: the write is `writeFrameReg`, which refuses or stores; what it stored is read back register by register. -/
theorem frameRegisterWritesAreStoredOrLocked : Obligations.FrameRegisterWritesAreStoredOrLocked := by
  intro s r a v ha hr
  rw [act_hostWrite_of_readWrite ha hr]
  refine ⟨fun locked => congrArg _ (writeFrameReg_of_busy locked r v), fun idle => ⟨storeReg r v s,
    congrArg _ (writeFrameReg_of_not_busy idle r v), ?reads, ?fields, fun r' => ?others, ?hidden⟩⟩
  case reads =>
    cases r
    case frameId => rfl
    case frameCtl => exact readReg_storeReg_frameCtl v s
    case frameLen => exact readReg_storeReg_frameLen v s
    case data i => exact readReg_storeReg_data i v s
    all_goals cases hr
  case fields =>
    rintro rfl
    exact ⟨rfl, rfl, variantOf_eq_enhanced_iff _⟩
  case others => exact fun hne hp hc => readReg_storeReg_of_ne hne hp hc v s
  case hidden =>
    obtain ⟨-, hpend, htxn, hsync, -, -, -, hcfg, -, -⟩ := storeReg_keeps r v s
    exact ⟨hpend, htxn, hsync, hcfg, storeReg_keeps_outside r v s⟩

/-! ### NOP (R109) -/

theorem exec_nop (s : State) : exec .nop s = .next s := rfl

/-- Settles O26: the byte 0x00 decodes to NOP, and NOP answers the state it is given. -/
theorem nopChangesNothing : Obligations.NopChangesNothing := by
  intro s
  have decoded : decodeByte 0x00#8 = .ok .nop := decodeByte_encodeByte .nop
  rw [act_hostWrite_cmd, commandWrite_of_decodeByte_ok decoded]
  exact ⟨exec_nop s, exec_nop s⟩

/-! ### The exchange commands (R106, R108) -/

theorem underRole_of_eq {r : Role} {s : State} (h : s.cfg.role = r) (t : State) : underRole r t s = t := if_pos h

theorem admitCmd_of_not_busy {x : ExState} {s : State} (hx : s.exState = x) (hb : busy s = false) (p : Pend) :
    admitCmd x p s = accept p s := if_pos ⟨hx, hb⟩

/-- A command of the node's role that finds its state and BUSY = 0 is latched. -/
theorem underRole_admitCmd {r : Role} {x : ExState} {s : State} (hr : s.cfg.role = r) (hx : s.exState = x)
    (hb : busy s = false) (p : Pend) : underRole r (admitCmd x p s) s = accept p s := by
  rw [underRole_of_eq hr, admitCmd_of_not_busy hx hb]

/-- Settles O27: SEND, WAIT and COMPLETE are each an `admitCmd` under a role, and PEND alone makes the core busy. -/
theorem acceptedCommandsAreLatched : Obligations.AcceptedCommandsAreLatched := by
  intro s idle
  exact ⟨fun hr hx => congrArg _ (underRole_admitCmd hr hx idle .send),
    fun hr hx => congrArg _ (underRole_admitCmd hr hx idle .wait),
    fun hr hx => congrArg _ (underRole_admitCmd hr hx idle .complete),
    fun _ t _ hp => busy_of_pend t hp⟩

/-! ### CANCEL (R116) -/

theorem exec_cancel_of_slave {s : State} (h : s.cfg.role = .slave) : exec .cancel s = .next (cancelWait s) :=
  congrArg _ (underRole_of_eq h _)

theorem cancelWait_of_pend {s : State} (h : s.pend = .wait) :
    cancelWait s = { s with pend := .none, outcome := .cancelled, errCode := .none } := if_pos h

theorem cancelWait_of_awaitHeader {s : State} (hp : s.pend ≠ .wait) (hx : s.exState = .awaitHeader) :
    cancelWait s = endWait .cancelled .none s := by
  rw [cancelWait, if_neg hp, if_pos hx]

theorem cancelWait_elsewhere {s : State} (hp : s.pend ≠ .wait) (hx : s.exState ≠ .awaitHeader) : cancelWait s = s := by
  rw [cancelWait, if_neg hp, if_neg hx]

/-- Settles O28: on a slave the three branches of `cancelWait`, on a master the refusal of a command outside its role. -/
theorem cancelEndsAWaitAndElsewhereDoesNothing : Obligations.CancelEndsAWaitAndElsewhereDoesNothing := by
  intro s
  refine ⟨fun hr hp => ?pending, fun hr hp hx => ?hunting, fun hr hp hx => ?elsewhere, fun hr => ?master⟩
  case pending => rw [exec_cancel_of_slave hr, cancelWait_of_pend hp]
  case hunting => rw [exec_cancel_of_slave hr, cancelWait_of_awaitHeader hp hx, endWait]
  case elsewhere => rw [exec_cancel_of_slave hr, cancelWait_elsewhere hp hx]
  case master => rw [exec_of_master hr (by simp), reject]

/-! ### The terminal step (R111, R115) -/

theorem engineStep?_of_terminal {s : State} (h : s.exState = .complete ∨ s.exState = .error) :
    engineStep? s = some (terminalStep s) := by
  obtain hx | hx := h
  all_goals simp only [engineStep?, hx]

/-- Settles O46: in both markers the engine's one enabled step is the terminal step. -/
theorem theTerminalStepReturnsToIdle : Obligations.TheTerminalStepReturnsToIdle := by
  intro s h
  rw [act, engineTurn, engineStep?_of_terminal h, Option.getD_some, terminalStep]

end Sys2Proof.Machine
end

/-! # Proofs: the master exchange, step by step

The statements of 44_master.md. An engine step is the one its guard enables (R111); an answer is taken by the pair of
STATE and request (R112). A response read and a response write are answered alike for a master and a slave (R145, R146),
so each is described once for both. -/

section
namespace Sys2Proof.Machine

/-! ### The SEND start step (R120) -/

theorem act_engine_of_send {s : State} (hx : s.exState = .idle) (hp : s.pend = .send) :
    act .engine s = .next (sendStart s) := by
  simp only [act, engineTurn, engineStep?, hx, hp, Option.getD_some]

theorem sendStart_of_invalid {s : State} {code : ErrCode} (h : validateMaster s = some code) :
    sendStart s = fail code { s with pend := .none } := by
  simp only [sendStart, h]

theorem sendStart_of_valid {s : State} (h : validateMaster s = none) :
    sendStart s = issue (headerRequest s) { s with pend := .none, exState := .headerSent } := by
  simp only [sendStart, h]

/-- Settles O30: the start step is `sendStart`, which validates and then fails or issues the header write. -/
theorem sendStartSendsTheHeaderOrFails : Obligations.SendStartSendsTheHeaderOrFails := by
  intro s hx hp
  rw [act_engine_of_send hx hp, idOf_eq_extract]
  refine ⟨fun code hv => ?invalid, fun hv => ?valid⟩
  case invalid => rw [sendStart_of_invalid hv, fail]
  case valid => rw [sendStart_of_valid hv, issue, headerRequest, headerBytes, frameIdent, syncByte]

/-! ### The response dispatch (R122, R125, R129) -/

theorem act_engine_of_headerSent {s : State} (hx : s.exState = .headerSent) (ht : s.txn = none) :
    act .engine s = .next (responseDispatch s) := by
  simp only [act, engineTurn, engineStep?, hx, ht, Option.getD_some]

theorem responseDispatch_of_receive {s : State} {len : Nibble} (h : direction s = .receive len) :
    responseDispatch s = masterReceive len s := by
  simp only [responseDispatch, h]

theorem responseDispatch_of_silent {s : State} (h : direction s = .silent) : responseDispatch s = completed s := by
  simp only [responseDispatch, h, masterSilent]

/-- Settles O32: the dispatch follows the frame's direction, to the response write, the response read or the end. -/
theorem responseDispatchFollowsTheDirection : Obligations.ResponseDispatchFollowsTheDirection := by
  intro s hx ht
  refine ⟨fun hd => ?transmit, fun len hd => ?receive, fun hd => ?silent⟩
  case transmit =>
    rw [act_engine_of_headerSent_transmit hx ht hd, issue, responseRequest, responseBytes, payload, frameIdent,
      idOf_eq_extract]
  case receive =>
    rw [act_engine_of_headerSent hx ht, responseDispatch_of_receive hd, masterReceive, issue, responseRead]
  case silent =>
    rw [act_engine_of_headerSent hx ht, responseDispatch_of_silent hd, completed]

/-! ### The answer to a write (R112, R121, R124, R145) -/

theorem act_answer_of_write {s : State} {kind : TxKind} {sent : List Byte} {a : Answer} {w : WriteResult}
    (ht : s.txn = some (.write kind sent)) (hw : writeResult a = some w) :
    act (.answer a) s = writeAnswered kind sent w { s with txn := none } := by
  simp only [act, transportAnswer, ht, hw]

theorem act_answer_of_headerWrite {s : State} {sent : List Byte} {a : Answer} {w : WriteResult}
    (hx : s.exState = .headerSent) (ht : s.txn = some (.write .header sent)) (hw : writeResult a = some w) :
    act (.answer a) s = .next (headerAnswered w { s with txn := none }) := by
  simp only [act_answer_of_write ht hw, writeAnswered, hx]

/-- The transmit answer of a master and that of a slave are one operation. -/
theorem act_answer_of_responseWrite {s : State} {sent : List Byte} {a : Answer} {w : WriteResult}
    (hx : s.exState = .headerSent ∨ s.exState = .responsePending) (ht : s.txn = some (.write .response sent))
    (hw : writeResult a = some w) :
    act (.answer a) s = .next (responseWritten sent w { s with txn := none }) := by
  rw [act_answer_of_write ht hw]
  obtain hx | hx := hx
  · simp only [writeAnswered, hx, masterTransmitAnswered]
  · simp only [writeAnswered, hx, slaveTransmitAnswered]

theorem responseWritten_ok (d : List Byte) (k : Byte) (s : State) :
    responseWritten (d ++ [k]) .ok s = completed { s with frameCksum := k } := by
  simp only [responseWritten, List.getLast?_concat]

theorem responseWritten_ioError (sent : List Byte) (s : State) :
    responseWritten sent .ioError s = fail .transportError s := by
  simp only [responseWritten]

/-- Every write that R112 lists fails alike on an `IOError`. -/
theorem act_ioError_of_write {s : State} {kind : TxKind} {sent : List Byte}
    (hx : s.exState = .headerSent ∨ (s.exState = .responsePending ∧ kind = .response))
    (ht : s.txn = some (.write kind sent)) :
    act (.answer .ioError) s = .next (fail .transportError { s with txn := none }) := by
  cases kind with
  | header =>
    have sentHeader : s.exState = .headerSent := hx.resolve_right (by simp)
    rw [act_answer_of_headerWrite sentHeader ht rfl, headerAnswered]
  | response => rw [act_answer_of_responseWrite (hx.imp_right And.left) ht rfl, responseWritten_ioError]

/-- Settles O31: `Ok` to a header write clears the request only, to a response write it completes; `IOError` fails both. -/
theorem writeAnswersContinueCompleteOrFail : Obligations.WriteAnswersContinueCompleteOrFail := by
  intro s
  refine ⟨fun sent hx ht => ?header, fun d k hx ht => ?response, fun sent kind hx ht => ?ioError⟩
  case header => rw [act_answer_of_headerWrite hx ht rfl, headerAnswered]
  case response => rw [act_answer_of_responseWrite hx ht rfl, responseWritten_ok, completed]
  case ioError => rw [act_ioError_of_write hx ht, fail]

/-! ### The answer to a response read (R112, R113, R126 to R128, R146) -/

theorem readResult_of_length_eq {n : Nat} {r : List Byte} (h : r.length = n) :
    readResult n (.bytes r) = some (.bytes r) := by
  rw [readResult, if_pos h]

/-- The converse of `readResult_ioError`: a wrong number of bytes is taken as an `IOError` (R113). -/
theorem readResult_of_ioError_or_length_ne {n : Nat} {a : Answer}
    (h : a = .ioError ∨ ∃ r, a = .bytes r ∧ r.length ≠ n) : readResult n a = some .ioError := by
  obtain rfl | ⟨r, rfl, hr⟩ := h
  · rfl
  · rw [readResult, if_neg hr]

/-- The response read of a master (FRAME_ID's identifier) and that of a slave (the header's) are answered alike. -/
theorem act_answer_of_responseRead {s : State} {n : Nat} {id : Ident} {a : Answer} {w : ReadResult}
    (ht : s.txn = some (.read n))
    (hx : (s.exState = .awaitResponse ∧ id = frameIdent s) ∨ (s.exState = .responsePending ∧ id = hdrIdent s))
    (hw : readResult n a = some w) :
    act (.answer a) s = .next (responseReadAnswered id w { s with txn := none }) := by
  have taken : act (.answer a) s = readAnswered n w { s with txn := none } := by
    simp only [act, transportAnswer, ht, hw]
  rw [taken]
  obtain ⟨hx, rfl⟩ | ⟨hx, rfl⟩ := hx
  · simp only [readAnswered, hx, masterReceiveAnswered, frameIdent]
  · simp only [readAnswered, hx, slaveReceiveAnswered, hdrIdent]

theorem keepResponse_append_byte (d : List Byte) (k : Byte) (s : State) :
    keepResponse (d ++ [k]) s =
      completed { s with data := scatter d s.data, dataCount := BitVec.ofNat 4 d.length, frameCksum := k } := by
  simp only [keepResponse, List.getLast?_concat, List.dropLast_concat]

theorem responseReadAnswered_of_match {id : Ident} {d : List Byte} {k : Byte} {s : State}
    (h : k = frameCksum s.cfg id s.variant d) :
    responseReadAnswered id (.bytes (d ++ [k])) s = keepResponse (d ++ [k]) s :=
  if_pos (by rw [cksumMatch_append_byte, beq_iff_eq, h])

theorem responseReadAnswered_of_mismatch {id : Ident} {d : List Byte} {k : Byte} {s : State}
    (h : k ≠ frameCksum s.cfg id s.variant d) :
    responseReadAnswered id (.bytes (d ++ [k])) s = fail .checksumMismatch s :=
  if_neg (by rwa [cksumMatch_append_byte, beq_iff_eq])

/-- A frame whose data has the declared length is coherent, whatever LEN_VALID is (R99 to R102). -/
theorem validateSlave_of_dataCount_eq_frameLen {s : State} (h : s.dataCount = s.frameLen)
    (h1 : 1 ≤ s.frameLen.toNat) (h8 : s.frameLen.toNat ≤ 8) : validateSlave s = none := by
  rw [validateSlave_eq_none_iff, TooLarge, Incoherent, h]
  omega

/-- Settles O33: the read result, then the checksum, select the case; a response that is kept has FRAME_LEN bytes, so it
leaves a coherent frame with data. -/
theorem responseReadAnswers : Obligations.ResponseReadAnswers := by
  intro s len id h1 h8 ht hx
  simp only [idOf_eq_extract] at hx
  refine ⟨fun hlen d k hd hk => ?kept, fun d k hd hk => ?mismatch, fun a ha => ?ioError⟩
  case kept =>
    have count : BitVec.ofNat 4 d.length = s.frameLen := by rw [hd, ← hlen, BitVec.ofNat_toNat, BitVec.setWidth_eq]
    refine ⟨scatter d s.data, _, fun i => ?data, ?answer, rfl, ?valid, ?direction⟩
    case data => rw [scatter_get, hd]
    case answer =>
      rw [act_answer_of_responseRead ht hx (readResult_of_length_eq (by simp [hd])),
        responseReadAnswered_of_match (s := { s with txn := none }) hk, keepResponse_append_byte, count, completed]
    case valid => exact validateSlave_of_dataCount_eq_frameLen rfl (by rwa [hlen]) (by rwa [hlen])
    case direction => exact direction_of_data (by rwa [hlen])
  case mismatch =>
    rw [act_answer_of_responseRead ht hx (readResult_of_length_eq (by simp [hd])),
      responseReadAnswered_of_mismatch (s := { s with txn := none }) hk, fail]
  case ioError =>
    rw [act_answer_of_responseRead ht hx (readResult_of_ioError_or_length_ne ha), responseReadAnswered, fail]

end Sys2Proof.Machine
end

/-! # Proofs: the slave exchange, step by step

The statements of 45_slave.md. WAIT starts a header hunt that reads one byte at a time (R132, R133); what a byte does
turns on whether a sync was seen and on its parity (R134 to R136), and anything but one byte fails the hunt (R113, R137).
The COMPLETE start step validates and then follows the frame's direction (R142 to R144, R146). -/

section
namespace Sys2Proof.Machine

/-! ### WAIT and the header poll (R111, R132, R133) -/

theorem act_engine_of_wait {s : State} (hx : s.exState = .idle) (hp : s.pend = .wait) :
    act .engine s = .next (waitStart s) := by
  simp only [act, engineTurn, engineStep?, hx, hp, Option.getD_some]

theorem act_engine_of_awaitHeader {s : State} (hx : s.exState = .awaitHeader) (ht : s.txn = none) :
    act .engine s = .next (headerPoll s) := by
  simp only [act, engineTurn, engineStep?, hx, ht, Option.getD_some]

/-- Settles O37: the two guards select the WAIT start step and the header poll. -/
theorem waitStartsAndPollsOneByte : Obligations.WaitStartsAndPollsOneByte := by
  intro s
  refine ⟨fun hx hp => ?start, fun hx ht => ?poll⟩
  case start => rw [act_engine_of_wait hx hp, waitStart]
  case poll => rw [act_engine_of_awaitHeader hx ht, headerPoll, issue]

/-! ### The answer to a header poll (R112, R113, R134 to R137) -/

theorem act_answer_of_headerPoll {s : State} {a : Answer} {w : ReadResult} (hx : s.exState = .awaitHeader)
    (ht : s.txn = some (.read 1)) (hw : readResult 1 a = some w) :
    act (.answer a) s = .next (headerPollAnswered w { s with txn := none }) := by
  simp only [act, transportAnswer, ht, hw, readAnswered, hx, if_true]

theorem act_answer_byte_of_headerPoll {s : State} (hx : s.exState = .awaitHeader) (ht : s.txn = some (.read 1))
    (b : Byte) : act (.answer (.bytes [b])) s = .next (huntByte b { s with txn := none }) := by
  rw [act_answer_of_headerPoll hx ht (readResult_of_length_eq rfl), headerPollAnswered]

theorem huntByte_of_no_sync {s : State} (h : s.syncSeen = false) (b : Byte) :
    huntByte b s = { s with syncSeen := b == syncByte } := if_pos h

theorem huntByte_of_sync_pidOk {s : State} {b : Byte} (h : s.syncSeen = true) (hb : pidOk b = true) :
    huntByte b s = headerFound b s := by
  rw [huntByte, if_neg (by simp [h]), if_pos hb]

theorem huntByte_of_sync_not_pidOk {s : State} {b : Byte} (h : s.syncSeen = true) (hb : pidOk b = false) :
    huntByte b s = { s with syncSeen := false } := by
  rw [huntByte, if_neg (by simp [h]), if_neg (by simp [hb])]

/-- Settles O38: one byte is taken by the three branches of `huntByte`; every other answer is an `IOError`. -/
theorem aHeaderPollAnswerHunts : Obligations.AHeaderPollAnswerHunts := by
  intro s b hx ht
  have taken := act_answer_byte_of_headerPoll hx ht b
  refine ⟨fun hs => ?noSync, fun hs hb => ?header, fun hs hb => ?parity, fun a ha => ?ioError⟩
  case noSync => rw [taken, huntByte_of_no_sync (s := { s with txn := none }) hs, syncByte]
  case header => rw [taken, huntByte_of_sync_pidOk (s := { s with txn := none }) hs hb, headerFound, idOf_eq_extract]
  case parity => rw [taken, huntByte_of_sync_not_pidOk (s := { s with txn := none }) hs hb]
  case ioError =>
    rw [act_answer_of_headerPoll hx ht (readResult_of_ioError_or_length_ne ha), headerPollAnswered, fail]

/-! ### The deadline (R140, R159) -/

theorem enabled_deadline_iff (s : State) : enabled .deadline s = true ↔ s.exState = .awaitHeader := beq_iff_eq

theorem deadlineStep_of_awaitHeader {s : State} (h : s.exState = .awaitHeader) :
    deadlineStep s = endWait .failed .timeout s := if_pos h

theorem deadlineStep_elsewhere {s : State} (h : s.exState ≠ .awaitHeader) : deadlineStep s = s := if_neg h

/-- Settles O41: the deadline is enabled in AWAIT_HEADER alone, where it ends the wait. -/
theorem theDeadlineEndsAHeaderHunt : Obligations.TheDeadlineEndsAHeaderHunt := by
  intro s
  refine ⟨fun hx => ⟨(enabled_deadline_iff s).mpr hx, ?ends⟩, fun hx => ⟨?disabled, ?nothing⟩⟩
  case ends => rw [act, deadlineStep_of_awaitHeader hx, endWait]
  case disabled => exact Bool.eq_false_iff.mpr (mt (enabled_deadline_iff s).mp hx)
  case nothing => rw [act, deadlineStep_elsewhere hx]

/-! ### The COMPLETE start step (R142 to R144, R146) -/

theorem act_engine_of_complete {s : State} (hx : s.exState = .responsePending) (hp : s.pend = .complete) :
    act .engine s = .next (completeStart s) := by
  simp only [act, engineTurn, engineStep?, hx, hp, Option.getD_some]

theorem completeStart_of_invalid {s : State} {code : ErrCode} (h : validateSlave s = some code) :
    completeStart s = fail code { s with pend := .none } := by
  simp only [completeStart, h]

theorem completeStart_of_silent {s : State} (hv : validateSlave s = none) (hd : direction s = .silent) :
    completeStart s = slaveSilent { s with pend := .none } := by
  simp only [completeStart, hv, hd]

theorem completeStart_of_receive {s : State} {len : Nibble} (hv : validateSlave s = none)
    (hd : direction s = .receive len) : completeStart s = issue (responseRead len) { s with pend := .none } := by
  simp only [completeStart, hv, hd, slaveReceive]

/-- Settles O42: validation fails the exchange, or the frame's direction selects how it goes on; a transmit takes its
identifier from HDR_PID. -/
theorem completeStartFollowsTheDirection : Obligations.CompleteStartFollowsTheDirection := by
  intro s hx hp
  have start := act_engine_of_complete hx hp
  refine ⟨fun code hv => ?invalid, fun hv hd => ?silent, fun hv hd => ?transmit, fun len hv hd => ?receive⟩
  case invalid => rw [start, completeStart_of_invalid hv, fail]
  case silent => rw [start, completeStart_of_silent hv hd, slaveSilent]
  case transmit =>
    rw [act_engine_of_complete_transmit hx hp hv hd, issue, responseRequest, responseBytes, payload, hdrIdent,
      idOf_eq_extract]
  case receive => rw [start, completeStart_of_receive hv hd, issue, responseRead]

end Sys2Proof.Machine
end

/-! # Proofs: the invariants that every step keeps

The statements of 10_state.md section 4, with the bounds of a request and the quiescent states. A state with nothing
pending meets R42 as soon as its request is one that its STATE may have (`ListedInv.of_pend_none`), and in each STATE the
exchange invariant speaks only of that STATE's own request and outcome (`ExchangeInv.of_ended` to
`ExchangeInv.of_responsePending`). Both are kept event by event, along the cases of `act_cases`. -/

section
namespace Sys2Proof.Machine

/-! ### The listed invariants (R42) -/

/-- The pairs of STATE and request that R42 (c) lists. -/
def RequestFits (x : ExState) : Request → Prop
  | .write .header _ => x = .headerSent
  | .write .response _ => x = .headerSent ∨ x = .responsePending
  | .read n => x = .awaitResponse ∨ (x = .awaitHeader ∧ n = 1) ∨ x = .responsePending

theorem ListedInv.requestFits {s : State} (h : ListedInv s) {q : Request} (ht : s.txn = some q) :
    RequestFits s.exState q := by
  match q with
  | .write .header b => exact h.headerWrite b ht
  | .write .response b => exact h.responseWrite b ht
  | .read n => exact h.read n ht

theorem RequestFits.busy_or_responsePending {x : ExState} {q : Request} (h : RequestFits x q) :
    busyState x = true ∨ x = .responsePending := by
  match q with
  | .write .header _ => exact .inl (by rw [show x = _ from h]; rfl)
  | .write .response _ => exact h.imp_left (by rintro rfl; rfl)
  | .read _ =>
    obtain rfl | ⟨rfl, -⟩ | rfl := h
    · exact .inl rfl
    · exact .inl rfl
    · exact .inr rfl

/-- With nothing pending, (a), (b) and (e) of R42 hold of themselves. -/
theorem ListedInv.of_pend_none {t : State} (hp : t.pend = .none)
    (ht : ∀ q, t.txn = some q → RequestFits t.exState q) (hs : t.syncSeen = true → t.exState = .awaitHeader)
    (hf : t.outcome = .failed ↔ t.errCode ≠ .none) : ListedInv t where
  pendNoRequest hne := absurd hp hne
  pendSend := by simp [hp]
  pendWait := by simp [hp]
  pendComplete := by simp [hp]
  headerWrite b hb := ht _ hb
  responseWrite b hb := ht _ hb
  read n hn := ht _ hn
  sync := hs
  terminal hx := by
    refine ⟨hp, Option.eq_none_iff_forall_ne_some.mpr fun q hq => ?_⟩
    have := (ht q hq).busy_or_responsePending
    obtain hx | hx := hx
    all_goals simp [hx, busyState] at this
  failedIffCode := hf

theorem ListedInv.congr {s t : State} (h : ListedInv s) (hx : t.exState = s.exState) (hp : t.pend = s.pend)
    (ht : t.txn = s.txn) (hs : t.syncSeen = s.syncSeen) (ho : t.outcome = s.outcome) (he : t.errCode = s.errCode) :
    ListedInv t := by
  obtain ⟨_, _, _, _, _, _, _, _, _, _⟩ := h
  constructor
  all_goals simpa only [hx, hp, ht, hs, ho, he]

/-- An exchange command is latched in its own STATE (R42 (b)). -/
theorem ListedInv.of_accept {s : State} (h : ListedInv s) (idle : busy s = false) {c : Pend}
    (hc : (c ≠ .complete ∧ s.exState = .idle) ∨ (c = .complete ∧ s.exState = .responsePending)) :
    ListedInv (accept c s) := by
  obtain ⟨-, ht, -⟩ := (busy_eq_false_iff s).mp idle
  obtain ⟨hc, hx⟩ | ⟨rfl, hx⟩ := hc
  all_goals
    have hs := h.sync
    constructor
    all_goals simp_all

theorem ListedInv.pend_eq_none_of_txn {s : State} (h : ListedInv s) (ht : s.txn ≠ none) : s.pend = .none :=
  not_not.mp fun hp => ht (h.pendNoRequest hp)

theorem ListedInv.pend_eq_none {s : State} (h : ListedInv s) {x : ExState} (hx : s.exState = x)
    (hb : busyState x = true) : s.pend = .none := by
  subst hx
  cases hp : s.pend with
  | none => rfl
  | send => simp [h.pendSend hp, busyState] at hb
  | wait => simp [h.pendWait hp, busyState] at hb
  | complete => simp [h.pendComplete hp, busyState] at hb

theorem ListedInv.sync_eq_false {s : State} (h : ListedInv s) (hx : s.exState ≠ .awaitHeader) : s.syncSeen = false :=
  Bool.eq_false_iff.mpr fun hs => hx (h.sync hs)

theorem ListedInv.of_write {s t : State} (h : ListedInv s) (hw : WriteCase s t) : ListedInv t := by
  cases hw with
  | same ht => exact ht ▸ h
  | rejected c ht => subst ht; exact h.congr rfl rfl rfl rfl rfl rfl
  | send hr hx idle ht => subst ht; exact h.of_accept idle (.inl ⟨by decide, hx⟩)
  | wait hr hx idle ht => subst ht; exact h.of_accept idle (.inl ⟨by decide, hx⟩)
  | complete hr hx idle ht => subst ht; exact h.of_accept idle (.inr ⟨rfl, hx⟩)
  | cancelPend hr hp ht =>
    subst ht
    exact .of_pend_none rfl (fun q hq => h.requestFits hq) h.sync (by simp)
  | cancelHunt hr hp hx ht =>
    subst ht; exact .of_pend_none (h.pend_eq_none hx rfl) (by simp) (by simp) (by simp)
  | frame r v hr idle ht =>
    subst ht
    obtain ⟨hx, hp, ht, hs, ho, he, -⟩ := storeReg_keeps r v s
    exact h.congr hx hp ht hs ho he

theorem ListedInv.of_issue {s : State} (hp : s.pend = .none) {q : Request} (hq : RequestFits s.exState q)
    (hs : s.syncSeen = true → s.exState = .awaitHeader) (hf : s.outcome = .failed ↔ s.errCode ≠ .none) :
    ListedInv (issue q s) :=
  .of_pend_none hp (fun q' hq' => by cases hq'; exact hq) hs hf

/-- A failure, a completion or the end of a wait leaves no request, so only R42 (f) is left to say. -/
theorem ListedInv.of_ended {t : State} (hp : t.pend = .none) (ht : t.txn = none) (hs : t.syncSeen = false)
    (hf : t.outcome = .failed ↔ t.errCode ≠ .none) : ListedInv t :=
  .of_pend_none hp (by simp [ht]) (by simp [hs]) hf

theorem ListedInv.of_fail {s : State} (hp : s.pend = .none) {c : ErrCode} (hc : c ≠ .none) : ListedInv (fail c s) :=
  .of_ended hp rfl rfl (by simp [hc])

theorem ListedInv.of_completed {s : State} (hp : s.pend = .none) (ht : s.txn = none) (hs : s.syncSeen = false) :
    ListedInv (completed s) :=
  .of_ended hp ht hs (by simp)

/-- Validation gives neither the code 0 nor the code that is never written (R155). -/
theorem validateSlave_code_ne {s : State} {c : ErrCode} (h : validateSlave s = some c) :
    c ≠ .none ∧ c ≠ .protocolStateError := by
  obtain rfl | rfl := validateSlave_code s c h
  all_goals decide

theorem validateMaster_code_ne {s : State} {c : ErrCode} (h : validateMaster s = some c) :
    c ≠ .none ∧ c ≠ .protocolStateError := by
  obtain rfl | rfl | rfl := validateMaster_code s c h
  all_goals decide

/-- R42: every event keeps (a) to (f). -/
theorem ListedInv.of_act {e : Event} {s t : State} (h : ListedInv s) (ha : act e s = .next t) : ListedInv t := by
  cases act_cases e s t ha with
  | write lines he hw => exact (h.congr (t := { s with hostProg := lines }) rfl rfl rfl rfl rfl rfl).of_write hw
  | read b lines he ht => subst ht; exact h.congr rfl rfl rfl rfl rfl rfl
  | idle hn ht => exact ht ▸ h
  | sendFail he hx hp c hv ht => subst ht; exact .of_fail rfl (validateMaster_code_ne hv).1
  | sendOk he hx hp hv ht =>
    subst ht
    exact .of_issue rfl rfl (by simp [h.sync_eq_false, hx]) h.failedIffCode
  | waitStart he hx hp ht =>
    subst ht
    exact .of_pend_none rfl (by simp [h.pendNoRequest, hp]) (by simp) h.failedIffCode
  | completeFail he hx hp c hv ht => subst ht; exact .of_fail rfl (validateSlave_code_ne hv).1
  | completeSilent he hx hp hv hd ht =>
    subst ht
    exact .of_ended rfl (h.pendNoRequest (by simp [hp])) (h.sync_eq_false (by simp [hx])) (by simp)
  | completeTransmit he hx hp hv hd ht => subst ht; exact .of_issue rfl (Or.inr hx) h.sync h.failedIffCode
  | completeReceive he hx hp len hv hd ht =>
    subst ht; exact .of_issue rfl (Or.inr (.inr hx)) h.sync h.failedIffCode
  | transmit he hx htxn hd ht =>
    subst ht; exact .of_issue (h.pend_eq_none hx rfl) (Or.inl hx) h.sync h.failedIffCode
  | receive he hx htxn len hd ht =>
    subst ht
    exact .of_issue (s := { s with exState := .awaitResponse }) (h.pend_eq_none hx rfl) (Or.inl rfl)
      (by simp [h.sync_eq_false, hx]) h.failedIffCode
  | silent he hx htxn hd ht =>
    subst ht; exact .of_completed (h.pend_eq_none hx rfl) htxn (h.sync_eq_false (by simp [hx]))
  | poll he hx htxn ht =>
    subst ht; exact .of_issue (h.pend_eq_none hx rfl) (Or.inr (.inl ⟨hx, rfl⟩)) h.sync h.failedIffCode
  | terminal he hx ht =>
    subst ht
    obtain ⟨hp, htxn⟩ := h.terminal hx
    exact .of_ended hp htxn (h.sync_eq_false (by obtain hx | hx := hx <;> simp [hx])) h.failedIffCode
  | ioError a he ha' htxn hx ht => subst ht; exact .of_fail (h.pend_eq_none_of_txn htxn) (by decide)
  | headerOk he b hx htxn ht =>
    subst ht; exact .of_pend_none (h.pend_eq_none hx rfl) (by simp) h.sync h.failedIffCode
  | sent he b hx htxn ht =>
    subst ht
    exact .of_completed (h.pend_eq_none_of_txn (by simp [htxn])) rfl
      (h.sync_eq_false (by obtain hx | hx := hx <;> simp [hx]))
  | mismatch r id he hx htxn hm ht => subst ht; exact .of_fail (h.pend_eq_none_of_txn (by simp [htxn])) (by decide)
  | kept d k id he hx htxn hm ht =>
    subst ht
    exact .of_completed (h.pend_eq_none_of_txn (by simp [htxn])) rfl
      (h.sync_eq_false (by obtain ⟨hx, -⟩ | ⟨hx, -⟩ := hx <;> simp [hx]))
  | hunted b he hx htxn hs ht | parityWrong b he hx htxn hs hb ht =>
    subst ht; exact .of_pend_none (h.pend_eq_none hx rfl) (by simp) (fun _ => hx) h.failedIffCode
  | found b he hx htxn hs hb ht | deadline he hx ht =>
    subst ht; exact .of_ended (h.pend_eq_none hx rfl) rfl rfl (by simp)
  | reset he ht => subst ht; exact .of_ended rfl rfl rfl (by simp [resetStep, State.resetOf])

/-! ### The machine goes on (R112) -/

/-- An answer to a request that its STATE may have is listed in R112. -/
theorem act_answer_next (a : Answer) {s : State} (h : ∀ q, s.txn = some q → RequestFits s.exState q) :
    ∃ t, act (.answer a) s = .next t := by
  match ht : s.txn with
  | none => exact ⟨s, by simp only [act, transportAnswer, ht]⟩
  | some (.write kind sent) =>
    cases hw : writeResult a with
    | none => exact ⟨s, by simp only [act, transportAnswer, ht, hw]⟩
    | some w =>
      cases kind with
      | header => exact ⟨_, act_answer_of_headerWrite (h _ ht) ht hw⟩
      | response => exact ⟨_, act_answer_of_responseWrite (h _ ht) ht hw⟩
  | some (.read n) =>
    cases hw : readResult n a with
    | none => exact ⟨s, by simp only [act, transportAnswer, ht, hw]⟩
    | some w =>
      obtain hx | ⟨hx, rfl⟩ | hx := h _ ht
      · exact ⟨_, act_answer_of_responseRead ht (.inl ⟨hx, rfl⟩) hw⟩
      · exact ⟨_, act_answer_of_headerPoll hx ht hw⟩
      · exact ⟨_, act_answer_of_responseRead ht (.inr ⟨hx, rfl⟩) hw⟩

theorem hostLineStep_next (s : State) : ∃ t, hostLineStep s = .next t := by
  unfold hostLineStep
  split
  · exact ⟨_, rfl⟩
  · exact hostWrite_next _ _ _
  · exact ⟨_, rfl⟩
  · exact ⟨_, rfl⟩

theorem ListedInv.goes_on {s : State} (h : ListedInv s) (e : Event) : ∃ t, act e s = .next t := by
  cases e with
  | hostWrite a v => exact hostWrite_next a v s
  | hostLine => exact hostLineStep_next s
  | answer a => exact act_answer_next a fun q => h.requestFits
  | hostRead a | engine | deadline | reset => exact ⟨_, rfl⟩

/-- Settles O57: an event goes on and keeps R42, and taking the event from the schedule touches nothing of R42. -/
theorem everyStepGoesOnAndKeepsTheListedInvariants : Obligations.EveryStepGoesOnAndKeepsTheListedInvariants := by
  intro s h
  obtain ⟨i, d, taken⟩ := nextEvent_snd s
  have listed : ListedInv (nextEvent s).2 := by rw [taken]; exact h.congr rfl rfl rfl rfl rfl rfl
  obtain ⟨t, ht⟩ := listed.goes_on (nextEvent s).1
  exact ⟨t, ht, listed.of_act ht⟩

/-! ### The exchange invariant, STATE by STATE -/

/-- In IDLE with nothing pending, in COMPLETE and in ERROR only the outcome is left to say. -/
theorem ExchangeInv.of_ended {t : State} (listed : ListedInv t) (hp : t.pend = .none) (ht : t.txn = none)
    (hx : t.exState = .idle ∨ (t.exState = .complete ∧ t.outcome = .completed) ∨
      (t.exState = .error ∧ t.outcome = .failed))
    (hh : t.hdrPid = 0 ∨ pidOk t.hdrPid = true) (hc : t.errCode ≠ .protocolStateError) : ExchangeInv t := by
  obtain hx | ⟨hx, ho⟩ | ⟨hx, ho⟩ := hx
  all_goals
    constructor
    case listed => exact listed
    case hdrPidShape => exact hh
    case noStateErrorCode => exact hc
    all_goals simp [*]

/-- A hunt has no write outstanding, so it says nothing of the frame. -/
theorem ExchangeInv.of_awaitHeader {t : State} (listed : ListedInv t) (hx : t.exState = .awaitHeader)
    (hr : t.cfg.role = .slave) (ho : t.outcome = .none) (hh : t.hdrPid = 0 ∨ pidOk t.hdrPid = true)
    (hc : t.errCode ≠ .protocolStateError) : ExchangeInv t := by
  have hp := listed.pend_eq_none hx rfl
  constructor
  case listed => exact listed
  case hdrPidShape => exact hh
  case noStateErrorCode => exact hc
  case headerRequested =>
    intro b hb
    have := listed.headerWrite b hb
    simp [hx] at this
  all_goals simp [*]

theorem ExchangeInv.of_headerSent {t : State} (listed : ListedInv t) (hx : t.exState = .headerSent)
    (hr : t.cfg.role = .master) (hv : validateMaster t = none) (ho : t.outcome = .none)
    (hq : ∀ q, t.txn = some q → q = headerRequest t ∨
      (direction t = .transmit ∧ q = responseRequest (frameIdent t) t))
    (hh : t.hdrPid = 0 ∨ pidOk t.hdrPid = true) (hc : t.errCode ≠ .protocolStateError) : ExchangeInv t := by
  have hp := listed.pend_eq_none hx rfl
  constructor
  case listed => exact listed
  case hdrPidShape => exact hh
  case noStateErrorCode => exact hc
  case headerRequested =>
    intro b hb
    simpa [headerRequest, responseRequest] using hq _ hb
  case masterWrites =>
    intro b _ hb
    simpa [headerRequest, responseRequest] using hq _ hb
  all_goals simp [*]

theorem ExchangeInv.of_awaitResponse {t : State} (listed : ListedInv t) (hx : t.exState = .awaitResponse)
    (hr : t.cfg.role = .master) (hv : validateMaster t = none) (ho : t.outcome = .none)
    (hd : direction t = .receive t.frameLen) (ht : t.txn = some (responseRead t.frameLen))
    (hh : t.hdrPid = 0 ∨ pidOk t.hdrPid = true) (hc : t.errCode ≠ .protocolStateError) : ExchangeInv t := by
  have hp := listed.pend_eq_none hx rfl
  constructor
  case listed => exact listed
  case hdrPidShape => exact hh
  case noStateErrorCode => exact hc
  case headerRequested => simp [ht, responseRead]
  all_goals simp [*]

/-- RESPONSE_PENDING with nothing pending: before a COMPLETE, or with the request of one outstanding. -/
theorem ExchangeInv.of_responsePending {t : State} (listed : ListedInv t) (hx : t.exState = .responsePending)
    (hp : t.pend = .none) (hr : t.cfg.role = .slave) (hheld : pidOk t.hdrPid = true)
    (hn : t.txn = none → t.outcome = .headerReceived)
    (hq : ∀ q, t.txn = some q → t.outcome = .none ∧ validateSlave t = none ∧
      ((direction t = .transmit ∧ q = responseRequest (hdrIdent t) t) ∨
        (direction t = .receive t.frameLen ∧ q = responseRead t.frameLen)))
    (hc : t.errCode ≠ .protocolStateError) : ExchangeInv t := by
  constructor
  case listed => exact listed
  case noStateErrorCode => exact hc
  case hdrPidShape => exact .inr hheld
  case headerRequested =>
    intro b hb
    have := listed.headerWrite b hb
    simp [hx] at this
  case slaveWrites =>
    intro b _ hb
    obtain ⟨-, hv, hd⟩ := hq _ hb
    simpa [hv, responseRequest, responseRead] using hd
  case slaveReads =>
    intro n _ hb
    obtain ⟨-, hv, hd⟩ := hq _ hb
    simpa [hv, responseRequest, responseRead] using hd
  case outcomeClear =>
    intro hw
    obtain ⟨q, ht⟩ : ∃ q, t.txn = some q := Option.ne_none_iff_exists'.mp (by simpa [hx, hp] using hw)
    exact (hq q ht).1
  case outcomeHeader => exact fun _ _ => hn
  all_goals simp [*]

/-- The exchange invariant says nothing of REJ_CAUSE and of what is not the core's. -/
theorem ExchangeInv.of_outside {s : State} (h : ExchangeInv s) (c : RejCause) (i : List Event) (l : List HostLine)
    (b : Option Byte) (d : Nat) :
    ExchangeInv { s with rejCause := c, inputs := i, hostProg := l, readOut := b, drawn := d } :=
  { h with listed := h.listed.congr rfl rfl rfl rfl rfl rfl }

/-- A store finds no request outstanding and no exchange of a master, so the frame is free (R110). -/
theorem ExchangeInv.of_storeReg {s : State} (h : ExchangeInv s) (idle : busy s = false) (r : Reg) (v : Byte) :
    ExchangeInv (storeReg r v s) := by
  obtain ⟨hp, ht, h1, h2, h3⟩ := (busy_eq_false_iff s).mp idle
  obtain ⟨ex, ep, et, es, eo, ee, -, ec, eh, -⟩ := storeReg_keeps r v s
  have role := h.slaveRole
  constructor
  case listed => exact h.listed.congr ex ep et es eo ee
  case headerHeld => rw [ex, eh]; exact h.headerHeld
  case hdrPidShape => rw [eh]; exact h.hdrPidShape
  case outcomeHeader => rw [ex, ep, et, eo]; exact h.outcomeHeader
  case outcomeComplete => rw [ex, eo]; exact h.outcomeComplete
  case outcomeError => rw [ex, eo]; exact h.outcomeError
  case noStateErrorCode => rw [ee]; exact h.noStateErrorCode
  all_goals simp_all

/-- A latched command finds its role and its STATE, and clears the outcome (R105, R106, R108). -/
theorem ExchangeInv.of_accept {s : State} (h : ExchangeInv s) (idle : busy s = false) {c : Pend}
    (hc : (c = .send ∧ s.exState = .idle ∧ s.cfg.role = .master) ∨
      (c = .wait ∧ s.exState = .idle ∧ s.cfg.role = .slave) ∨
      (c = .complete ∧ s.exState = .responsePending ∧ s.cfg.role = .slave)) : ExchangeInv (accept c s) := by
  obtain ⟨-, ht, -⟩ := (busy_eq_false_iff s).mp idle
  have held := h.headerHeld
  obtain ⟨rfl, hx, hr⟩ | ⟨rfl, hx, hr⟩ | ⟨rfl, hx, hr⟩ := hc
  all_goals
    constructor
    case listed => exact h.listed.of_accept idle (by simp [hx])
    case hdrPidShape => exact h.hdrPidShape
    all_goals simp_all

/-! ### The exchange invariant, event by event -/

theorem ExchangeInv.of_write {s t : State} (h : ExchangeInv s) (hw : WriteCase s t) : ExchangeInv t := by
  have listed := h.listed.of_write hw
  cases hw with
  | same ht => exact ht ▸ h
  | rejected c ht => subst ht; exact h.of_outside c _ _ _ _
  | send hr hx idle ht => subst ht; exact h.of_accept idle (.inl ⟨rfl, hx, hr⟩)
  | wait hr hx idle ht => subst ht; exact h.of_accept idle (.inr (.inl ⟨rfl, hx, hr⟩))
  | complete hr hx idle ht => subst ht; exact h.of_accept idle (.inr (.inr ⟨rfl, hx, hr⟩))
  | cancelPend hr hp ht =>
    subst ht
    exact .of_ended listed rfl (h.listed.pendNoRequest (by simp [hp])) (.inl (h.listed.pendWait hp)) h.hdrPidShape
      (by simp)
  | cancelHunt hr hp hx ht =>
    subst ht; exact .of_ended listed (h.listed.pend_eq_none hx rfl) rfl (.inl rfl) h.hdrPidShape (by simp)
  | frame r v hr idle ht => subst ht; exact h.of_storeReg idle r v

theorem ExchangeInv.of_act {e : Event} {s t : State} (h : ExchangeInv s) (ha : act e s = .next t) : ExchangeInv t := by
  have listed := h.listed.of_act ha
  cases act_cases e s t ha with
  | write lines he hw => exact (h.of_outside s.rejCause s.inputs lines s.readOut s.drawn).of_write hw
  | read b lines he ht => subst ht; exact h.of_outside s.rejCause s.inputs lines b s.drawn
  | idle hn ht => exact ht ▸ h
  | sendFail he hx hp c hv ht =>
    subst ht
    exact .of_ended listed rfl rfl (.inr (.inr ⟨rfl, rfl⟩)) h.hdrPidShape (validateMaster_code_ne hv).2
  | sendOk he hx hp hv ht =>
    subst ht
    exact .of_headerSent listed rfl (h.masterRole (.inl hp)) hv (h.outcomeClear (.inl (by simp [hp])))
      (fun q hq => .inl (Option.some.inj hq).symm) h.hdrPidShape h.noStateErrorCode
  | waitStart he hx hp ht =>
    subst ht
    exact .of_awaitHeader listed rfl (h.slaveRole (.inl hp)) (h.outcomeClear (.inl (by simp [hp]))) h.hdrPidShape
      h.noStateErrorCode
  | completeFail he hx hp c hv ht =>
    subst ht
    exact .of_ended listed rfl rfl (.inr (.inr ⟨rfl, rfl⟩)) h.hdrPidShape (validateSlave_code_ne hv).2
  | completeSilent he hx hp hv hd ht =>
    subst ht
    exact .of_ended listed rfl (h.listed.pendNoRequest (by simp [hp])) (.inl rfl) h.hdrPidShape (by simp)
  | completeTransmit he hx hp hv hd ht =>
    subst ht
    exact .of_responsePending listed hx rfl (h.slaveRole (.inr (.inl hp))) (h.headerHeld hx) (by simp)
      (fun q hq => ⟨h.outcomeClear (.inl (by simp [hp])), hv, .inl ⟨hd, (Option.some.inj hq).symm⟩⟩)
      h.noStateErrorCode
  | completeReceive he hx hp len hv hd ht =>
    subst ht
    obtain ⟨rfl, -⟩ := direction_receive_len s len hd
    exact .of_responsePending listed hx rfl (h.slaveRole (.inr (.inl hp))) (h.headerHeld hx) (by simp)
      (fun q hq => ⟨h.outcomeClear (.inl (by simp [hp])), hv, .inr ⟨hd, (Option.some.inj hq).symm⟩⟩)
      h.noStateErrorCode
  | transmit he hx htxn hd ht =>
    subst ht
    exact .of_headerSent listed hx (h.masterRole (by simp [hx])) (h.masterValid (by simp [hx]))
      (h.outcomeClear (by simp [hx])) (fun q hq => .inr ⟨hd, (Option.some.inj hq).symm⟩) h.hdrPidShape
      h.noStateErrorCode
  | receive he hx htxn len hd ht =>
    subst ht
    obtain ⟨rfl, -⟩ := direction_receive_len s len hd
    exact .of_awaitResponse listed rfl (h.masterRole (by simp [hx])) (h.masterValid (by simp [hx]))
      (h.outcomeClear (by simp [hx])) hd rfl h.hdrPidShape h.noStateErrorCode
  | silent he hx htxn hd ht =>
    subst ht
    exact .of_ended listed (h.listed.pend_eq_none hx rfl) htxn (.inr (.inl ⟨rfl, rfl⟩)) h.hdrPidShape (by simp)
  | poll he hx htxn ht | hunted b he hx htxn hs ht | parityWrong b he hx htxn hs hb ht =>
    subst ht
    exact .of_awaitHeader listed hx (h.slaveRole (by simp [hx])) (h.outcomeClear (by simp [hx])) h.hdrPidShape
      h.noStateErrorCode
  | terminal he hx ht =>
    subst ht
    obtain ⟨hp, htxn⟩ := h.listed.terminal hx
    exact .of_ended listed hp htxn (.inl rfl) h.hdrPidShape h.noStateErrorCode
  | ioError a he ha' htxn hx ht =>
    subst ht
    exact .of_ended listed (h.listed.pend_eq_none_of_txn htxn) rfl (.inr (.inr ⟨rfl, rfl⟩)) h.hdrPidShape (by simp)
  | headerOk he b hx htxn ht =>
    subst ht
    exact .of_headerSent listed hx (h.masterRole (by simp [hx])) (h.masterValid (by simp [hx]))
      (h.outcomeClear (by simp [hx])) (by simp) h.hdrPidShape h.noStateErrorCode
  | sent he b hx htxn ht | kept d k id he hx htxn hm ht =>
    subst ht
    exact .of_ended listed (h.listed.pend_eq_none_of_txn (by simp [htxn])) rfl (.inr (.inl ⟨rfl, rfl⟩))
      h.hdrPidShape (by simp)
  | mismatch r id he hx htxn hm ht =>
    subst ht
    exact .of_ended listed (h.listed.pend_eq_none_of_txn (by simp [htxn])) rfl (.inr (.inr ⟨rfl, rfl⟩))
      h.hdrPidShape (by simp)
  | found b he hx htxn hs hb ht =>
    subst ht
    exact .of_responsePending listed rfl (h.listed.pend_eq_none hx rfl) (h.slaveRole (by simp [hx])) hb (fun _ => rfl)
      (by simp) (by simp)
  | deadline he hx ht =>
    subst ht
    exact .of_ended listed (h.listed.pend_eq_none hx rfl) rfl (.inl rfl) h.hdrPidShape (by simp)
  | reset he ht => subst ht; exact .of_ended listed rfl rfl (.inl rfl) (.inl rfl) (by simp [resetStep, State.resetOf])

/-- Settles O58: each event keeps the exchange invariant, which says nothing of the schedule the event is taken from. -/
theorem everyStepKeepsTheExchangeInvariant : Obligations.EveryStepKeepsTheExchangeInvariant := by
  intro s t h ht
  obtain ⟨i, d, taken⟩ := nextEvent_snd s
  have before : ExchangeInv (nextEvent s).2 := by
    rw [taken]; exact h.of_outside s.rejCause i s.hostProg s.readOut d
  exact before.of_act ht

/-- Settles O56: after reset nothing is pending or outstanding, and HDR_PID is 0. -/
theorem theInvariantsHoldAfterReset : Obligations.TheInvariantsHoldAfterReset := by
  intro c
  have listed : ListedInv (State.resetOf c) := .of_ended rfl rfl rfl (by simp [State.resetOf])
  exact ⟨listed, .of_ended listed rfl rfl (.inl rfl) (.inl rfl) (by simp [State.resetOf])⟩

/-! ### The parameters (R40) -/

theorem WriteCase.keeps_cfg {s t : State} (h : WriteCase s t) : t.cfg = s.cfg := by
  cases h
  case frame r v _ _ ht =>
    subst ht
    obtain ⟨-, -, -, -, -, -, -, hcfg, -⟩ := storeReg_keeps r v s
    exact hcfg
  all_goals subst_vars; rfl

theorem act_keeps_cfg {e : Event} {s t : State} (h : act e s = .next t) : t.cfg = s.cfg := by
  cases act_cases e s t h
  case write lines _ hw => exact hw.keeps_cfg
  all_goals subst_vars; rfl

/-- Settles O55: an event keeps the parameters, and so does taking it from the schedule. -/
theorem noStepWritesTheParameters : Obligations.NoStepWritesTheParameters := by
  intro s t h
  obtain ⟨i, d, taken⟩ := nextEvent_snd s
  rw [act_keeps_cfg h, taken]

/-! ### The bounds of a request (R38, R75, R76) -/

theorem headerRequest_wellFormed (s : State) : (headerRequest s).wellFormed = true := by
  unfold headerRequest headerBytes
  split
  all_goals rfl

theorem responseRequest_wellFormed (id : Ident) (s : State) : (responseRequest id s).wellFormed = true := by
  simp only [responseRequest, Request.wellFormed, responseBytes_length, Bool.and_eq_true, decide_eq_true_eq]
  omega

/-- The response read outstanding is of FRAME_LEN + 1 bytes, 1 to 8 of them data. -/
theorem ExchangeInv.read_length {s : State} (h : ExchangeInv s) {n : Nat}
    (hx : s.exState = .awaitResponse ∨ s.exState = .responsePending) (ht : s.txn = some (.read n)) :
    n = s.frameLen.toNat + 1 ∧ s.frameLen.toNat ≤ 8 := by
  have bounded (hv : validateSlave s = none) (hd : direction s = .receive s.frameLen) : s.frameLen.toNat ≤ 8 :=
    (frameLen_bounds_of_validateSlave hv (direction_receive_len s _ hd).2.1).2
  obtain hx | hx := hx
  · obtain ⟨hd, hread⟩ := h.masterReads hx
    cases ht.symm.trans hread
    exact ⟨rfl, bounded (validateSlave_of_validateMaster s (h.masterValid (.inr hx))) hd⟩
  · obtain ⟨hv, hd, rfl⟩ := h.slaveReads n hx ht
    exact ⟨rfl, bounded hv hd⟩

/-- Settles O59: the invariant names each request that may be outstanding, and a valid frame bounds its length. -/
theorem outstandingRequestsAreInBounds : Obligations.OutstandingRequestsAreInBounds := by
  intro s q h ht
  match q with
  | .write .header b =>
    rw [h.headerRequested b ht]
    exact headerRequest_wellFormed s
  | .write .response b =>
    obtain hx | hx := h.listed.responseWrite b ht
    · obtain ⟨-, rfl⟩ := h.masterWrites b hx ht
      exact responseRequest_wellFormed _ s
    · obtain ⟨-, -, rfl⟩ := h.slaveWrites b hx ht
      exact responseRequest_wellFormed _ s
  | .read n =>
    have bounds : 1 ≤ n ∧ n ≤ 9 := by
      obtain hx | ⟨-, rfl⟩ | hx := h.listed.read n ht
      · have := h.read_length (.inl hx) ht
        omega
      · decide
      · have := h.read_length (.inr hx) ht
        omega
    simpa [Request.wellFormed] using bounds

/-! ### Quiescence (R111, R179) -/

/-- An `IOError` is an answer that every request can have, so while a request is outstanding one answer is enabled. -/
theorem enabled_ioError_iff (s : State) : enabled (.answer .ioError) s = true ↔ s.txn ≠ none := by
  unfold enabled
  cases s.txn with
  | none => simp
  | some q => cases q <;> simp [answerFits, writeResult, readResult]

theorem enabled_answer_of_txn_none {s : State} (h : s.txn = none) (a : Answer) : enabled (.answer a) s = false := by
  simp [enabled, h]

/-- When the engine has a step, as the guards of R111 say it. -/
theorem enabled_engine_iff (s : State) :
    enabled .engine s = true ↔ (s.exState = .idle ∧ (s.pend = .send ∨ s.pend = .wait)) ∨
      (s.exState = .responsePending ∧ s.pend = .complete) ∨
      ((s.exState = .headerSent ∨ s.exState = .awaitHeader) ∧ s.txn = none) ∨
      s.exState = .complete ∨ s.exState = .error := by
  unfold enabled engineStep?
  cases s.exState with
  | idle | responsePending => cases s.pend <;> simp
  | headerSent | awaitHeader => cases s.txn <;> simp
  | awaitResponse | complete | error => simp

/-- Settles O60: a request is answerable, every STATE but the two has an enabled step when none is outstanding, and in
those two a pending command would be the engine's. -/
theorem theQuiescentStates : Obligations.TheQuiescentStates := by
  intro s h
  constructor
  · rintro ⟨engine, answers, deadline⟩
    have ht : s.txn = none := by
      by_contra hne
      simpa [answers] using (enabled_ioError_iff s).mpr hne
    have stuck := mt (enabled_engine_iff s).mpr (by simp [engine])
    have hunts : s.exState ≠ .awaitHeader := fun hx => by simpa [deadline] using (enabled_deadline_iff s).mpr hx
    have reads : s.exState ≠ .awaitResponse := fun hx => by simpa [ht] using (h.masterReads hx).2
    refine ⟨by cases hx : s.exState <;> simp [hx, ht] at stuck hunts reads ⊢, ?_, ht⟩
    cases hp : s.pend with
    | none => rfl
    | send => exact absurd (.inl ⟨h.listed.pendSend hp, .inl hp⟩) stuck
    | wait => exact absurd (.inl ⟨h.listed.pendWait hp, .inr hp⟩) stuck
    | complete => exact absurd (.inr (.inl ⟨h.listed.pendComplete hp, hp⟩)) stuck
  · rintro ⟨hx, hp, ht⟩
    refine ⟨Bool.eq_false_iff.mpr (mt (enabled_engine_iff s).mp ?_), enabled_answer_of_txn_none ht,
      Bool.eq_false_iff.mpr (mt (enabled_deadline_iff s).mp ?_)⟩
    all_goals obtain hx | hx := hx <;> simp [hx, hp]

end Sys2Proof.Machine
end

/-! # Proofs: sequences of command bytes, and what the addresses read as

The statements of 30_encoding.md and of the register map. A sequence decodes byte by byte, each byte by
`decodeByte_ok_iff` (R62, R80); the value of a byte put together from its fields is the sum of the fields, each at its
place (R23, R24, R27). -/

section
namespace Sys2Proof.Machine

/-! ### Sequences of command bytes (R61 to R64, R80) -/

theorem decodeAll_cons_ok_iff (c : Byte) (rest : List Byte) (cmds : List Instr) :
    decodeAll (c :: rest) = .ok cmds ↔
      ∃ i is, decodeByte c = .ok i ∧ decodeAll rest = .ok is ∧ i :: is = cmds := by
  rw [decodeAll]
  cases decodeByte c <;> cases decodeAll rest <;> simp

/-- Settles O2, by induction on the bytes: the first byte is that of the first command, and the rest is the rest's. -/
theorem decodingASequenceInvertsEncodingIt : Obligations.DecodingASequenceInvertsEncodingIt := by
  intro bytes
  induction bytes with
  | nil =>
    intro cmds _
    cases cmds <;> simp [decodeAll, encode]
  | cons c rest ih =>
    intro cmds wf
    rw [decodeAll_cons_ok_iff]
    constructor
    · rintro ⟨i, is, hc, hrest, rfl⟩
      rw [(decodeByte_ok_iff c i).mp hc, (ih is fun j hj => wf j (.tail i hj)).mp hrest]
      rfl
    · intro bytesOf
      cases cmds with
      | nil => cases bytesOf
      | cons i is =>
        obtain ⟨rfl, rfl⟩ := List.cons.inj bytesOf
        exact ⟨i, is, decodeByte_encodeByte i, (ih is fun j hj => wf j (.tail i hj)).mpr rfl, rfl⟩

/-- Settles O1: the bytes are those of the table, each decoded as `decodeByte_encodeByte` says of its command. -/
theorem theTableBytesDecodeToTheirCommands : Obligations.TheTableBytesDecodeToTheirCommands :=
  ⟨decodeByte_encodeByte .nop, decodeByte_encodeByte .send, decodeByte_encodeByte .wait,
    decodeByte_encodeByte .complete, decodeByte_encodeByte .cancel⟩

/-! ### The value of a byte put together from its fields -/

theorem toNat_append_eq_add {m n : Nat} (x : BitVec m) (y : BitVec n) :
    (x ++ y).toNat = x.toNat * 2 ^ n + y.toNat := by
  rw [BitVec.toNat_append, ← Nat.shiftLeft_add_eq_or_of_lt y.isLt, Nat.shiftLeft_eq]

theorem statusByte_toNat (s : State) :
    (statusByte s).toNat = (stateCode s.exState).toNat + 8 * (busy s).toNat + 16 * (rejCauseCode s.rejCause).toNat := by
  simp only [statusByte, toNat_append_eq_add, BitVec.toNat_ofBool, BitVec.toNat_ofNat]
  omega

theorem resultByte_toNat (s : State) :
    (resultByte s).toNat = (outcomeCode s.outcome).toNat + 8 * (errCodeBits s.errCode).toNat := by
  simp only [resultByte, toNat_append_eq_add, BitVec.toNat_ofNat]
  omega

theorem variantBit_toNat (v : Variant) : (variantBit v).toNat = if v = .enhanced then 1 else 0 := by
  cases v <;> rfl

theorem frameCtlByte_toNat (s : State) :
    (frameCtlByte s).toNat =
      s.dataCount.toNat + 16 * s.lenValid.toNat + 32 * (if s.variant = .enhanced then 1 else 0) := by
  simp only [frameCtlByte, toNat_append_eq_add, BitVec.toNat_ofBool, BitVec.toNat_ofNat, variantBit_toNat]
  omega

/-- Settles O10: the flag bit is 1 exactly when the length is set. -/
theorem frameCtlIsItsFieldsAdded : Obligations.FrameCtlIsItsFieldsAdded := by
  intro s
  have flag : s.lenValid.toNat = if s.lenValid = true then 1 else 0 := by cases s.lenValid <;> rfl
  rw [← flag]
  exact frameCtlByte_toNat s

theorem readReg_frameLen_toNat (s : State) : (readReg .frameLen s).toNat = s.frameLen.toNat := by
  rw [readReg, toNat_append_eq_add]
  simp

/-- Settles O8: each address names its register, and the bytes put together from fields are their sums. -/
theorem eachAddressReadsItsRegister : Obligations.EachAddressReadsItsRegister := by
  intro s
  refine ⟨rfl, statusByte_toNat s, resultByte_toNat s, rfl, frameCtlByte_toNat s, readReg_frameLen_toNat s,
    readReg_pidView s, ?cksumView, rfl, rfl, fun a i ha => ?data, fun a ha => ?reserved⟩
  case cksumView => rw [readReg_cksumView, cksumView, frameIdent, idOf_eq_extract, payload_eq_take_min]
  case data => rw [regAt_data a i ha, readReg]
  case reserved => rw [regAt_reserved a ha, readReg]

end Sys2Proof.Machine
end

/-! # Proofs: which event a step takes, and the host's and the reset's events

A step is the step of one event (R7, R118). What each event does that the host or the environment may bring at any time:
a read, a line of the host's program, a command in the wrong STATE, a reset; and that an event that is not enabled does
nothing. -/

section
namespace Sys2Proof.Machine

/-! ### The next event (R7, R105) -/

theorem step_of_scheduled {s : State} {e : Event} {rest : List Event} (h : s.inputs = e :: rest) :
    step s = act e { s with inputs := rest } := by
  simp only [step, nextEvent, h]

theorem step_of_free {s : State} (h : s.inputs = []) :
    step s = act (Config.freeEvent s.drawn) { s with drawn := s.drawn + 1 } := by
  simp only [step, nextEvent, h]

/-- Settles O4: the two cases of the schedule. -/
theorem aStepTakesTheNextEvent : Obligations.AStepTakesTheNextEvent :=
  fun _ => ⟨fun _ _ => step_of_scheduled, step_of_free⟩

theorem act_hostLine_of_wr {s : State} {a : Addr} {v : Byte} {rest : List HostLine} (h : s.hostProg = .wr a v :: rest) :
    act .hostLine s = hostWrite a v { s with hostProg := rest } := by
  simp only [act, hostLineStep, h]

theorem act_hostLine_of_rd {s : State} {a : Addr} {rest : List HostLine} (h : s.hostProg = .rd a :: rest) :
    act .hostLine s = .next (hostRead a { s with hostProg := rest }) := by
  simp only [act, hostLineStep, h]

theorem act_hostLine_of_poll {s : State} {a : Addr} {mask val : Byte} {rest : List HostLine}
    (h : s.hostProg = .poll a mask val :: rest) :
    act .hostLine s = .next (hostRead a
      { s with hostProg := if pollDone mask val (readReg (regAt a) s) = true then rest else s.hostProg }) := by
  simp only [act, hostLineStep, h]

/-- Settles O5: a write to CMD runs the decoded command, be it a free write or a line of the host's program. -/
theorem aStepRunsTheDecodedCommand : Obligations.AStepRunsTheDecodedCommand := by
  intro s c i hc
  refine ⟨fun rest hs => ?write, fun rest lines hs hl => ?line⟩
  case write => rw [step_of_scheduled hs, act_hostWrite_cmd, commandWrite_of_decodeByte_ok hc]
  case line =>
    rw [step_of_scheduled hs, act_hostLine_of_wr (s := { s with inputs := rest }) hl]
    exact commandWrite_of_decodeByte_ok hc _

/-! ### Host reads and the lines of a host program (R49, R78) -/

/-- A read does not depend on what was read last, nor on the host's program. -/
theorem readReg_outside (r : Reg) (s : State) (b : Option Byte) (l : List HostLine) :
    readReg r { s with readOut := b, hostProg := l } = readReg r s := by
  cases r <;> rfl

/-- Settles O7: the register a second read reads is as the first found it. -/
theorem aHostReadChangesNothing : Obligations.AHostReadChangesNothing := by
  intro a s
  refine ⟨hostRead a s, rfl, rfl, ?_⟩
  have again : readReg (regAt a) (hostRead a s) = readReg (regAt a) s := readReg_outside _ s _ s.hostProg
  rw [act, hostRead, again]
  rfl

theorem pollDone_eq_true_iff (mask val value : Byte) : pollDone mask val value = true ↔ value &&& mask = val :=
  beq_iff_eq

/-- Settles O14: each line is its access on the state less the line, which a POLL whose condition fails keeps. -/
theorem theHostDoesItsProgramLineByLine : Obligations.TheHostDoesItsProgramLineByLine := by
  intro s a v mask val rest
  refine ⟨act_hostLine_of_wr, act_hostLine_of_rd, fun hl hv => ?done, fun hl hv => ?again⟩
  case done =>
    rw [act_hostLine_of_poll hl, if_pos ((pollDone_eq_true_iff _ _ _).mpr hv), hostRead,
      readReg_outside _ s s.readOut rest]
  case again =>
    rw [act_hostLine_of_poll hl, if_neg (mt (pollDone_eq_true_iff _ _ _).mp hv)]
    rfl

/-! ### Commands in the wrong state (R106, R107) -/

theorem underRole_admitCmd_of_wrong_state {r : Role} {x : ExState} {s : State} (hr : s.cfg.role = r)
    (h : s.exState ≠ x ∨ busy s = true) (p : Pend) : underRole r (admitCmd x p s) s = reject .badState s := by
  rw [underRole_of_eq hr, admitCmd, if_neg (by rintro ⟨hx, hb⟩; simp [hx, hb] at h)]

/-- Settles O29: the three commands are one admission, each with its role and its STATE. -/
theorem commandsInTheWrongStateAreRefused : Obligations.CommandsInTheWrongStateAreRefused := by
  rintro s i (⟨hr, rfl, h⟩ | ⟨hr, rfl, h⟩ | ⟨hr, rfl, h⟩)
  · exact congrArg _ (underRole_admitCmd_of_wrong_state hr h .send)
  · exact congrArg _ (underRole_admitCmd_of_wrong_state hr h .wait)
  · exact congrArg _ (underRole_admitCmd_of_wrong_state hr h .complete)

/-! ### Reset (R43, R166, R167) -/

/-- Settles O53: each register has its reset value, and the two views are those of identifier 0 with no data. -/
theorem resetLeavesTheResetValues : Obligations.ResetLeavesTheResetValues := by
  intro c s
  refine ⟨rfl, rfl, rfl, rfl, rfl, rfl, rfl, rfl, rfl, fun i => ?data, rfl, rfl, rfl, rfl, rfl, rfl, rfl, ?pid,
    ?cksum⟩
  case data => exact Vector.getElem_replicate i.isLt
  case pid =>
    have noIdentifier : pid ((0x00#8).extractLsb' 0 6) = 0x80#8 := by decide
    exact (readReg_pidView s).trans noIdentifier
  case cksum => rfl

/-- Settles O54: the reset leaves no request, and with none outstanding no answer is enabled. -/
theorem aResetEventResetsTheWholeCore : Obligations.AResetEventResetsTheWholeCore := by
  intro s
  refine ⟨rfl, rfl, fun a t ht => ?_⟩
  cases ht
  exact enabled_answer_of_txn_none rfl a

/-! ### Events that are not enabled (R112, R118, R139) -/

/-- Settles O6: the engine without a step, an answer without its request, a deadline outside the hunt and a host line
with none left each answer the state they are given; the other events are always enabled. -/
theorem anEventThatIsNotEnabledChangesNothing : Obligations.AnEventThatIsNotEnabledChangesNothing := by
  intro e s h
  cases e with
  | hostRead a | hostWrite a v | reset => cases h
  | hostLine =>
    have noLine : s.hostProg = [] := by simpa [enabled] using h
    simp only [act, hostLineStep, noLine]
  | engine =>
    have noStep : engineStep? s = none := by simpa [enabled] using h
    rw [act, engineTurn, noStep, Option.getD_none]
  | deadline => rw [act, deadlineStep_elsewhere fun hx => by simp [enabled, hx] at h]
  | answer a =>
    rw [act, transportAnswer]
    cases ht : s.txn with
    | none => rfl
    | some q =>
      cases q with
      | write kind sent =>
        have noResult : writeResult a = none := by simpa [enabled, ht, answerFits] using h
        simp only [noResult]
      | read n =>
        have noResult : readResult n a = none := by simpa [enabled, ht, answerFits] using h
        simp only [noResult]

end Sys2Proof.Machine
end

/-! # Proofs: the end-around-carry sum in closed form

The rest of the statements of 41_checksum.md (R97). The accumulator is a function of the exact sum of the bytes, which
does not depend on their order and is 0 only when every byte is. -/

section
namespace Sys2Proof.Machine

/-- The exact sum of a sequence of bytes. -/
def exactSum (s : List Byte) : Nat := (s.map BitVec.toNat).sum

theorem exactSum_append_byte (s : List Byte) (b : Byte) : exactSum (s ++ [b]) = exactSum s + b.toNat := by
  simp [exactSum]

theorem exactSum_eq_zero_iff (s : List Byte) : exactSum s = 0 ↔ ∀ b ∈ s, b = 0x00#8 := by
  simp [exactSum, List.sum_eq_zero_iff, BitVec.toNat_eq]

theorem exactSum_perm {s s' : List Byte} (h : s.Perm s') : exactSum s = exactSum s' := (h.map _).sum_eq

/-- The least positive representative modulo 255 of a positive sum (R97 (a)). -/
def endAroundCarry (n : Nat) : Nat := if n = 0 then 0 else 1 + (n - 1) % 255

/-- One step of the accumulator is one addition of the exact sum. -/
theorem accStep_endAroundCarry (n : Nat) (b : Byte) : accStep (endAroundCarry n) b = endAroundCarry (n + b.toNat) := by
  have := b.isLt
  unfold accStep endAroundCarry
  split_ifs
  all_goals omega

theorem accSum_eq_endAroundCarry (s : List Byte) : accSum s = endAroundCarry (exactSum s) := by
  induction s using List.reverseRecOn with
  | nil => rfl
  | append_singleton s b ih => rw [accSum_append_byte, ih, accStep_endAroundCarry, exactSum_append_byte]

theorem endAroundCarry_le (n : Nat) : endAroundCarry n ≤ 255 := by
  unfold endAroundCarry
  split
  all_goals omega

theorem endAroundCarry_eq_zero_iff (n : Nat) : endAroundCarry n = 0 ↔ n = 0 := by
  unfold endAroundCarry
  split
  all_goals omega

theorem accSum_le (s : List Byte) : accSum s ≤ 255 := by
  rw [accSum_eq_endAroundCarry]
  exact endAroundCarry_le _

/-- Settles O19: the closed form by induction from the last byte; a permutation keeps the exact sum. -/
theorem accSumIsTheSumModulo255 : Obligations.AccSumIsTheSumModulo255 := by
  intro s
  refine ⟨accSum_eq_endAroundCarry s, accSum_le s, fun s' h => ?order⟩
  case order => rw [accSum_eq_endAroundCarry, accSum_eq_endAroundCarry, exactSum_perm h]

theorem accSum_eq_zero_iff (s : List Byte) : accSum s = 0 ↔ ∀ b ∈ s, b = 0x00#8 := by
  rw [accSum_eq_endAroundCarry, endAroundCarry_eq_zero_iff, exactSum_eq_zero_iff]

/-- 0xFF is the other zero of the end-around-carry sum: it moves the accumulator only away from 0. -/
theorem accStep_ff (a : Nat) : accStep a 0xFF#8 = if a = 0 then 255 else a := by
  simp only [accStep, BitVec.toNat_ofNat]
  split_ifs
  all_goals omega

theorem checksum_toNat (s : List Byte) : (checksum s).toNat = 255 - accSum s := by
  rw [checksum, BitVec.toNat_ofNat]
  omega

theorem checksum_eq_zero_iff (s : List Byte) : checksum s = 0 ↔ accSum s = 255 := by
  have := accSum_le s
  rw [BitVec.toNat_eq, checksum_toNat, show (0 : Byte).toNat = 0 from rfl]
  omega

/-- Settles O20: the closed form is 0 at 0 only, and a byte 0xFF is taken by `accStep_ff`. -/
theorem accSumAndChecksumCorners : Obligations.AccSumAndChecksumCorners := by
  intro s
  rw [accSum_append_byte, accStep_ff]
  exact ⟨accSum_eq_zero_iff s, fun h => if_neg (by omega), fun h => if_pos h, checksum_toNat s, checksum_eq_zero_iff s⟩

end Sys2Proof.Machine
end

/-! # Proofs: what no event changes, and the one cause of each change

The statements of 20_memory.md section 4, 43_commands.md and 60_exceptions.md that hold of every event. Each goes along
the cases of `act_cases`: the host's part is said once (`hostEvent_cases`, `WriteCase.of_busy`, `act_keeps_control`),
and the cases of another STATE drop out. -/

section
namespace Sys2Proof.Machine

/-! ### What the host can do (R49, R110) -/

/-- A host event is a write, or a read, which changes what was read last and the host's program only. -/
theorem hostEvent_cases {e : Event} {s t : State} (he : hostEvent e = true) (h : act e s = .next t) :
    (∃ lines, WriteCase { s with hostProg := lines } t) ∨
      ∃ b lines, t = { s with readOut := b, hostProg := lines } := by
  cases act_cases e s t h
  case write lines _ hw => exact .inl ⟨lines, hw⟩
  case read b lines _ ht => exact .inr ⟨b, lines, ht⟩
  case idle _ ht => exact .inr ⟨s.readOut, s.hostProg, ht⟩
  all_goals subst_vars; cases he

/-- While the core is busy a host write is refused, does nothing, or cancels a wait. -/
theorem WriteCase.of_busy {s t : State} (h : WriteCase s t) (hb : busy s = true) :
    (∃ c, t = reject c s) ∨
      (s.cfg.role = .slave ∧ s.pend = .wait ∧ t = { s with pend := .none, outcome := .cancelled, errCode := .none }) ∨
      (s.cfg.role = .slave ∧ s.exState = .awaitHeader ∧ t = endWait .cancelled .none s) := by
  cases h with
  | same ht => exact .inl ⟨s.rejCause, ht⟩
  | rejected c ht => exact .inl ⟨c, ht⟩
  | cancelPend hr hp ht => exact .inr (.inl ⟨hr, hp, ht⟩)
  | cancelHunt hr _ hx ht => exact .inr (.inr ⟨hr, hx, ht⟩)
  | send _ _ idle _ | wait _ _ idle _ | complete _ _ idle _ | frame _ _ _ idle _ => simp [hb] at idle

/-- Settles O13: a refusal and a read touch nothing of the frame and the exchange, and a CANCEL ends a wait. -/
theorem whileBusyTheHostCannotChangeTheFrame : Obligations.WhileBusyTheHostCannotChangeTheFrame := by
  intro e s t hb he ha
  obtain ⟨lines, hw⟩ | ⟨b, lines, rfl⟩ := hostEvent_cases he ha
  · obtain ⟨c, rfl⟩ | ⟨hr, hp, rfl⟩ | ⟨hr, hx, rfl⟩ := hw.of_busy (s := { s with hostProg := lines }) hb
    · exact ⟨⟨rfl, rfl, rfl, rfl, rfl, rfl⟩, rfl, rfl, rfl, .inl ⟨rfl, rfl, rfl, rfl, rfl⟩⟩
    · exact ⟨⟨rfl, rfl, rfl, rfl, rfl, rfl⟩, rfl, rfl, rfl, .inr ⟨hr, .inl hp, rfl⟩⟩
    · exact ⟨⟨rfl, rfl, rfl, rfl, rfl, rfl⟩, rfl, rfl, rfl, .inr ⟨hr, .inr hx, rfl⟩⟩
  · exact ⟨⟨rfl, rfl, rfl, rfl, rfl, rfl⟩, rfl, rfl, rfl, .inl ⟨rfl, rfl, rfl, rfl, rfl⟩⟩

/-! ### What stays where it is until the engine or the Transport moves it -/

/-- STATE, PEND, TXN and RESULT of t are those of s. -/
def SameControl (s t : State) : Prop :=
  t.exState = s.exState ∧ t.pend = s.pend ∧ t.txn = s.txn ∧ t.outcome = s.outcome ∧ t.errCode = s.errCode

/-- No command that the host may write is accepted, and there is no wait to cancel. -/
structure HostLockedOut (s : State) : Prop where
  admitsNothing : busy s = true ∨ (s.exState ≠ .idle ∧ s.exState ≠ .responsePending)
  notWaiting : s.pend ≠ .wait
  notHunting : s.exState ≠ .awaitHeader

theorem WriteCase.keeps_control {s t : State} (h : WriteCase s t) (locked : HostLockedOut s) : SameControl s t := by
  obtain ⟨none, notWaiting, notHunting⟩ := locked
  cases h with
  | same ht => subst ht; exact ⟨rfl, rfl, rfl, rfl, rfl⟩
  | rejected c ht => subst ht; exact ⟨rfl, rfl, rfl, rfl, rfl⟩
  | send _ hx idle _ | wait _ hx idle _ | complete _ hx idle _ => simp [hx, idle] at none
  | cancelPend _ hp _ => exact absurd hp notWaiting
  | cancelHunt _ _ hx _ => exact absurd hx notHunting
  | frame r v _ _ ht =>
    subst ht
    obtain ⟨hx, hp, ht, -, ho, he, -⟩ := storeReg_keeps r v s
    exact ⟨hx, hp, ht, ho, he⟩

/-- The host shut out, only an enabled engine step, an enabled answer or a reset moves the exchange. -/
theorem act_keeps_control {e : Event} {s t : State} (locked : HostLockedOut s) (hr : e ≠ .reset)
    (he : e = .engine → enabled .engine s = false) (ha : ∀ a, e = .answer a → enabled e s = false)
    (h : act e s = .next t) : SameControl s t := by
  have still (hn : enabled e s = false) : SameControl s t := by
    obtain rfl : s = t := Host.Outcome.next.inj ((anEventThatIsNotEnabledChangesNothing e s hn).symm.trans h)
    exact ⟨rfl, rfl, rfl, rfl, rfl⟩
  have host (hh : hostEvent e = true) : SameControl s t := by
    obtain ⟨lines, hw⟩ | ⟨b, lines, rfl⟩ := hostEvent_cases hh h
    · exact hw.keeps_control ⟨locked.admitsNothing, locked.notWaiting, locked.notHunting⟩
    · exact ⟨rfl, rfl, rfl, rfl, rfl⟩
  cases e with
  | hostRead _ | hostWrite _ _ | hostLine => exact host rfl
  | engine => exact still (he rfl)
  | answer a => exact still (ha a rfl)
  | deadline => exact still (Bool.eq_false_iff.mpr (mt (enabled_deadline_iff s).mp locked.notHunting))
  | reset => exact absurd rfl hr

/-- In a state that meets R42 the engine waits while a request is outstanding. -/
theorem ListedInv.engine_waits {s : State} (h : ListedInv s) (ht : s.txn ≠ none) : enabled .engine s = false := by
  have hp := h.pend_eq_none_of_txn ht
  have active := mt h.terminal (by simp [ht])
  rw [Bool.eq_false_iff, Ne, enabled_engine_iff]
  simp [hp, ht, not_or.mp active]

theorem ListedInv.hostLockedOut_of_txn {s : State} (h : ListedInv s) (ht : s.txn ≠ none)
    (hx : s.exState ≠ .awaitHeader) : HostLockedOut s :=
  ⟨.inl (busy_of_txn s ht), by simp [h.pend_eq_none_of_txn ht], hx⟩

/-- Settles O52, by induction on the events: each one goes on, keeps R42, and moves nothing. -/
theorem anUnansweredRequestHangs : Obligations.AnUnansweredRequestHangs := by
  intro es
  induction es with
  | nil => intro s _ _ _ _; exact ⟨s, rfl, rfl, rfl, rfl⟩
  | cons e es ih =>
    intro s h ht hx unanswered
    obtain ⟨hreset, hanswer⟩ := unanswered e List.mem_cons_self
    obtain ⟨u, hu⟩ := h.goes_on e
    obtain ⟨ux, up, ut, -, -⟩ := act_keeps_control (h.hostLockedOut_of_txn ht hx) hreset
      (fun _ => h.engine_waits ht) (fun a ha => absurd ha (hanswer a)) hu
    obtain ⟨t, run, tx, tt, tp⟩ := ih u (h.of_act hu) (by rwa [ut]) (by rwa [ux])
      fun e' he' => unanswered e' (.tail e he')
    exact ⟨t, by rw [actAll, hu]; exact run, tx.trans ux, tt.trans ut, tp.trans up⟩

/-- Settles O49: in ERROR nothing is pending or outstanding, the host is shut out, and the engine's one step ends it. -/
theorem failuresDoNotNest : Obligations.FailuresDoNotNest := by
  intro e s t h hx hr ha
  obtain ⟨hp, htxn⟩ := h.terminal (.inr hx)
  by_cases he : e = .engine
  · subst he
    cases (theTerminalStepReturnsToIdle s (.inr hx)).symm.trans ha
    exact ⟨rfl, rfl, hp, htxn, .inr ⟨rfl, rfl⟩⟩
  · have locked : HostLockedOut s := ⟨.inr (by simp [hx]), by simp [hp], by simp [hx]⟩
    obtain ⟨tx, tp, tt, tout, te⟩ := act_keeps_control locked hr (fun h' => absurd h' he)
      (fun a ha' => ha' ▸ enabled_answer_of_txn_none htxn a) ha
    exact ⟨tout, te, tp.trans hp, tt.trans htxn, .inl (tx.trans hx)⟩

/-! ### The registers' one writer (R32, R33) and the way out of RESPONSE_PENDING (R117) -/

theorem WriteCase.keeps_hdrPid_frameCksum {s t : State} (h : WriteCase s t) :
    t.hdrPid = s.hdrPid ∧ t.frameCksum = s.frameCksum := by
  cases h
  case frame r v _ _ ht =>
    subst ht
    obtain ⟨-, -, -, -, -, -, -, -, hh, hc⟩ := storeReg_keeps r v s
    exact ⟨hh, hc⟩
  all_goals subst_vars; exact ⟨rfl, rfl⟩

/-- Settles O50: HDR_PID is written where a header is found, FRAME_CKSUM where a response was sent or is kept. -/
theorem hdrPidAndFrameCksumHaveOneWriter : Obligations.HdrPidAndFrameCksumHaveOneWriter := by
  intro e s t ha hr
  cases act_cases e s t ha
  case write lines _ hw =>
    obtain ⟨hh, hc⟩ := hw.keeps_hdrPid_frameCksum
    exact ⟨fun hne => absurd hh hne, fun hne => absurd hc hne⟩
  case found b he hx _ hs hb ht =>
    subst ht
    exact ⟨fun _ => ⟨b, he, hx, hs, hb, rfl, rfl, rfl⟩, fun hne => absurd rfl hne⟩
  case sent he _ _ _ ht =>
    subst ht
    exact ⟨fun hne => absurd rfl hne, fun _ => ⟨⟨_, he⟩, rfl, rfl⟩⟩
  case kept he _ _ _ ht =>
    subst ht
    exact ⟨fun hne => absurd rfl hne, fun _ => ⟨⟨_, he⟩, rfl, rfl⟩⟩
  case reset he _ => exact absurd he hr
  all_goals
    subst_vars
    exact ⟨fun hne => absurd rfl hne, fun hne => absurd rfl hne⟩

/-- A host write leaves STATE, but for a CANCEL that ends a hunt. -/
theorem WriteCase.exState_eq {s t : State} (h : WriteCase s t) :
    t.exState = s.exState ∨ (s.exState = .awaitHeader ∧ t.exState = .idle) := by
  cases h
  case cancelHunt _ _ hx ht => subst ht; exact .inr ⟨hx, rfl⟩
  case frame r v _ _ ht => subst ht; exact .inl (storeReg_keeps r v s).1
  all_goals subst_vars; exact .inl rfl

/-- Settles O51: of the events that leave RESPONSE_PENDING none is the host's, and every answer has its request. -/
theorem onlyCompleteOrResetLeavesResponsePending : Obligations.OnlyCompleteOrResetLeavesResponsePending := by
  intro e s t hx ha hne
  cases act_cases e s t ha
  case write lines _ hw =>
    obtain h | ⟨h, -⟩ := hw.exState_eq
    · exact absurd (h.trans hx) hne
    · simp [hx] at h
  case completeFail he _ hp _ _ _ | completeSilent he _ hp _ _ _ | completeTransmit he _ hp _ _ _ |
      completeReceive he _ hp _ _ _ _ => exact .inr (.inl ⟨he, hp⟩)
  case ioError a he _ htxn _ _ => exact .inr (.inr ⟨a, he, htxn⟩)
  case sent he _ _ htxn _ | mismatch _ _ he _ htxn _ _ | kept _ _ _ he _ htxn _ _ =>
    exact .inr (.inr ⟨_, he, by simp [htxn]⟩)
  case reset he _ => exact .inl he
  all_goals simp_all

/-! ### Error codes and the entry to ERROR (R149 to R156, R160) -/

theorem WriteCase.errCode_eq {s t : State} (h : WriteCase s t) : t.errCode = s.errCode ∨ t.errCode = .none := by
  cases h
  case same ht | rejected _ ht => subst ht; exact .inl rfl
  case frame r v _ _ ht =>
    subst ht
    obtain ⟨-, -, -, -, -, he, -⟩ := storeReg_keeps r v s
    exact .inl he
  all_goals subst_vars; exact .inr rfl

/-- Settles O47: each case that writes a code other than 0 is the code's cause; a validation code is split by the check
that gave it. -/
theorem eachErrorCodeHasItsCause : Obligations.EachErrorCodeHasItsCause := by
  intro e s t ha hne
  cases act_cases e s t ha
  case write lines _ hw =>
    obtain h | h := hw.errCode_eq
    · exact absurd h hne
    · rw [h]; trivial
  case sendFail he _ hp c hv ht =>
    subst ht
    obtain h | h := validateMaster_some s c hv
    · obtain ⟨rfl, hid⟩ := checkId_some s c h
      exact ⟨he, hp, hid⟩
    · obtain ⟨rfl, large⟩ | ⟨rfl, incoherent⟩ := validateSlave_cause s c h
      · exact ⟨he, .inl hp, large⟩
      · exact ⟨he, .inl hp, incoherent⟩
  case completeFail he _ hp c hv ht =>
    subst ht
    obtain ⟨rfl, large⟩ | ⟨rfl, incoherent⟩ := validateSlave_cause s c hv
    · exact ⟨he, .inr hp, large⟩
    · exact ⟨he, .inr hp, incoherent⟩
  case ioError a he ha' htxn _ ht =>
    subst ht
    obtain ⟨q, hq⟩ := Option.ne_none_iff_exists'.mp htxn
    refine ⟨a, q, he, hq, ha'.imp_right ?_⟩
    rintro ⟨r, n, hr, hn, hl⟩
    exact ⟨r, n, hr, Option.some.inj (hq.symm.trans hn), hl⟩
  case mismatch r id he hx htxn hm ht => subst ht; exact ⟨r, id, he, htxn, hx, hm⟩
  case deadline he hx ht => subst ht; exact ⟨he, hx, rfl⟩
  case completeSilent ht | silent ht | sent ht | kept ht | found ht | reset ht => subst ht; trivial
  all_goals subst_vars; exact absurd rfl hne

/-- ERROR is entered through `fail` with a code, from the state with at most its pending command taken. -/
theorem act_enters_error {e : Event} {s t : State} (hs : s.exState ≠ .error) (ha : act e s = .next t)
    (hx : t.exState = .error) : ∃ c p, c ≠ .none ∧ t = fail c { s with pend := p } := by
  cases act_cases e s t ha
  case sendFail c hv ht => exact ⟨c, .none, (validateMaster_code_ne hv).1, ht⟩
  case completeFail c hv ht => exact ⟨c, .none, (validateSlave_code_ne hv).1, ht⟩
  case ioError ht => exact ⟨.transportError, s.pend, by decide, ht⟩
  case mismatch ht => exact ⟨.checksumMismatch, s.pend, by decide, ht⟩
  case write lines _ hw =>
    obtain h | ⟨-, h⟩ := hw.exState_eq
    · exact absurd (h.symm.trans hx) hs
    · simp [h] at hx
  case reset ht => subst ht; cases hx
  all_goals simp_all

/-- Settles O48: `fail` writes STATE, RESULT, TXN and SYNC_SEEN, and keeps the rest. -/
theorem aFailureKeepsTheRegisters : Obligations.AFailureKeepsTheRegisters := by
  intro e s t hs ha hx
  obtain ⟨c, p, hc, rfl⟩ := act_enters_error hs ha hx
  exact ⟨rfl, hc, rfl, rfl, ⟨rfl, rfl, rfl, rfl, rfl, rfl⟩, rfl, rfl, rfl, rfl⟩

end Sys2Proof.Machine
end

/-! # Proofs: a wait, an exchange of a slave, and a receive, whatever the event

Statements of 44_master.md and 45_slave.md that hold of every event in their STATE. A wait polls and never writes
(R138); FRAME_ID is read by no step of RESPONSE_PENDING (R147); a receive completes only with bytes that were asked for
and that verify (R130 (e)). -/

section
namespace Sys2Proof.Machine

/-! ### A wait (R131, R138) -/

theorem ListedInv.txn_of_awaitHeader {s : State} (h : ListedInv s) (hx : s.exState = .awaitHeader) :
    s.txn = none ∨ s.txn = some (.read 1) := by
  match ht : s.txn with
  | none => exact .inl rfl
  | some (.write .header b) => have := h.headerWrite b ht; simp [hx] at this
  | some (.write .response b) => have := h.responseWrite b ht; simp [hx] at this
  | some (.read n) =>
    obtain hx' | ⟨-, rfl⟩ | hx' := h.read n ht
    · simp [hx] at hx'
    · exact .inr rfl
    · simp [hx] at hx'

/-- Settles O40: a wait's own events poll, take a byte or end the wait, and only the header found writes a register. -/
theorem aWaitNeverWrites : Obligations.AWaitNeverWrites := by
  intro e s t h hx ha
  have polls := h.txn_of_awaitHeader hx
  have kept : SameFrame s s ∧ s.hdrPid = s.hdrPid := ⟨⟨rfl, rfl, rfl, rfl, rfl, rfl⟩, rfl⟩
  have hp := h.pend_eq_none hx rfl
  cases act_cases e s t ha
  case write lines _ hw =>
    obtain ⟨c, rfl⟩ | ⟨-, hp', -⟩ | ⟨-, -, rfl⟩ := hw.of_busy ((busy_eq_true_iff _).mpr (by simp [hx]))
    · exact ⟨polls, fun _ _ => kept⟩
    · simp [hp] at hp'
    · exact ⟨.inl rfl, fun _ _ => kept⟩
  case read ht | idle ht => subst ht; exact ⟨polls, fun _ _ => kept⟩
  case poll ht => subst ht; exact ⟨.inr rfl, fun _ _ => kept⟩
  case ioError ht | hunted ht | parityWrong ht | deadline ht => subst ht; exact ⟨.inl rfl, fun _ _ => kept⟩
  case found ht => subst ht; exact ⟨.inl rfl, fun _ hne => absurd rfl hne⟩
  case reset he ht => subst ht; exact ⟨.inl rfl, fun hne _ => absurd he hne⟩
  all_goals simp_all

/-! ### FRAME_ID in a slave exchange (R147) -/

/-- The state with another FRAME_ID. -/
def withFrameId (x : Byte) (s : State) : State := { s with frameId := x }

theorem validateSlave_withFrameId (x : Byte) (s : State) : validateSlave (withFrameId x s) = validateSlave s :=
  validateSlave_congr rfl rfl rfl

theorem direction_withFrameId (x : Byte) (s : State) : direction (withFrameId x s) = direction s :=
  direction_congr rfl rfl rfl

theorem completeStart_withFrameId (x : Byte) (s : State) :
    completeStart (withFrameId x s) = withFrameId x (completeStart s) := by
  rw [completeStart, completeStart, validateSlave_withFrameId, direction_withFrameId]
  cases validateSlave s with
  | some c => rfl
  | none => cases direction s <;> rfl

theorem engineTurn_withFrameId (x : Byte) {s : State} (hx : s.exState = .responsePending) :
    engineTurn (withFrameId x s) = withFrameId x (engineTurn s) := by
  have hx' : (withFrameId x s).exState = .responsePending := hx
  have hp : (withFrameId x s).pend = s.pend := rfl
  rw [engineTurn, engineTurn, engineStep?, engineStep?, hx, hx', hp]
  cases s.pend with
  | complete => exact completeStart_withFrameId x s
  | none | send | wait => rfl

theorem responseWritten_withFrameId (x : Byte) (sent : List Byte) (w : WriteResult) (s : State) :
    responseWritten sent w (withFrameId x s) = withFrameId x (responseWritten sent w s) := by
  unfold responseWritten
  cases w with
  | ioError => rfl
  | ok => cases sent.getLast? <;> rfl

theorem responseReadAnswered_withFrameId (x : Byte) (id : Ident) (w : ReadResult) (s : State) :
    responseReadAnswered id w (withFrameId x s) = withFrameId x (responseReadAnswered id w s) := by
  cases w with
  | ioError => rfl
  | bytes r =>
    have same : cksumMatch (withFrameId x s).cfg id (withFrameId x s).variant r = cksumMatch s.cfg id s.variant r := rfl
    rw [responseReadAnswered, responseReadAnswered, same, keepResponse, keepResponse]
    split
    · cases r.getLast? <;> rfl
    · rfl

theorem act_answer_withFrameId (x : Byte) {s t : State} {a : Answer} (hx : s.exState = .responsePending)
    (h : act (.answer a) s = .next t) : act (.answer a) (withFrameId x s) = .next (withFrameId x t) := by
  have still (hn : enabled (.answer a) s = false) : act (.answer a) (withFrameId x s) = .next (withFrameId x t) := by
    cases (anEventThatIsNotEnabledChangesNothing _ s hn).symm.trans h
    exact anEventThatIsNotEnabledChangesNothing _ (withFrameId x s) hn
  match ht : s.txn with
  | none => exact still (enabled_answer_of_txn_none ht a)
  | some (.write kind sent) =>
    cases hw : writeResult a with
    | none => exact still (by simp [enabled, ht, answerFits, hw])
    | some w =>
      cases kind with
      | header => simp [act_answer_of_write ht hw, writeAnswered, hx] at h
      | response =>
        cases (act_answer_of_responseWrite (.inr hx) ht hw).symm.trans h
        rw [act_answer_of_responseWrite (s := withFrameId x s) (.inr hx) ht hw]
        exact congrArg _ (responseWritten_withFrameId x sent w { s with txn := none })
  | some (.read n) =>
    cases hw : readResult n a with
    | none => exact still (by simp [enabled, ht, answerFits, hw])
    | some w =>
      cases (act_answer_of_responseRead ht (.inr ⟨hx, rfl⟩) hw).symm.trans h
      rw [act_answer_of_responseRead (s := withFrameId x s) ht (.inr ⟨hx, rfl⟩) hw]
      exact congrArg _ (responseReadAnswered_withFrameId x _ w { s with txn := none })

/-- Settles O43: both kinds of step commute with a change of FRAME_ID; InvalidIdentifier is written for a pending SEND
only (O47), for which the engine has no step here. -/
theorem completeIgnoresFrameId : Obligations.CompleteIgnoresFrameId := by
  intro e s t x hx he ha
  constructor
  · obtain rfl | ⟨a, rfl⟩ := he
    · cases ha
      exact congrArg Host.Outcome.next (engineTurn_withFrameId x hx)
    · exact act_answer_withFrameId x hx ha
  · intro code
    by_contra hne
    have cause := eachErrorCodeHasItsCause e s t ha (by rw [code]; exact Ne.symm hne)
    rw [code] at cause
    obtain ⟨rfl, hp, -⟩ := cause
    have waits : enabled .engine s = false := by
      rw [Bool.eq_false_iff, Ne, enabled_engine_iff]
      simp [hx, hp]
    cases (anEventThatIsNotEnabledChangesNothing _ s waits).symm.trans ha
    exact hne code

/-! ### A completed receive (R113, R127, R130 (e), R146) -/

/-- The payload of the frame that a kept response leaves is the data received. -/
theorem payload_of_scatter {d : List Byte} (h : d.length ≤ 8) {v : Vector Byte 8} {s : State}
    (hd : s.data = scatter d v) (hn : s.dataCount = BitVec.ofNat 4 d.length) : payload s = d := by
  have count : s.dataCount.toNat = d.length := by
    rw [hn, BitVec.toNat_ofNat]
    omega
  rw [payload, hd, count, take_scatter d _ h]

/-- Settles O44: only a response that is kept completes a read, and the read was of FRAME_LEN + 1 bytes. -/
theorem aCompletedReceiveHoldsVerifiedBytes : Obligations.ACompletedReceiveHoldsVerifiedBytes := by
  intro a s t n h ht ha hx
  have active : s.exState ≠ .complete := fun hc => by simpa [ht] using (h.listed.terminal (.inl hc)).2
  cases act_cases _ s t ha
  case kept d k id he hx' ht' hm hkept =>
    obtain ⟨hlen, h8⟩ := h.read_length (hx'.imp And.left And.left) ht'
    have hd : d.length = s.frameLen.toNat := Nat.succ.inj hlen
    have count : BitVec.ofNat 4 d.length = s.frameLen := by rw [hd, BitVec.ofNat_toNat, BitVec.setWidth_eq]
    have delivered : payload t = d := by
      subst hkept
      exact payload_of_scatter (hd ▸ h8) (v := s.data) rfl rfl
    subst hkept
    rw [delivered]
    refine ⟨Event.answer.inj he, hd, count, ?_⟩
    obtain ⟨hx', rfl⟩ | ⟨hx', rfl⟩ := hx'
    · rw [if_pos hx']; exact hm
    · rw [if_neg (by simp [hx'])]; exact hm
  case write he _ => cases he
  all_goals simp_all

end Sys2Proof.Machine
end

/-! # Proofs: whole exchanges, run event by event

The runs of 44_master.md and 45_slave.md: SEND to the header write, its answer to the response write, an answered
response to the end, COMPLETE to its read, and the hunt over any bytes. Each stretch of a run is a lemma of the state it
starts from (R119, R130, R134, R135, R142), and a statement chains the stretches it needs. -/

section
namespace Sys2Proof.Machine

/-! ### Sequences of events -/

theorem actAll_cons_of_next {e : Event} {s t : State} (h : act e s = .next t) (es : List Event) :
    actAll (e :: es) s = actAll es t := by
  rw [actAll, h]

theorem actAll_pair {e e' : Event} {s t : State} (h : act e s = .next t) : actAll [e, e'] s = act e' t := by
  rw [actAll_cons_of_next h, actAll]
  cases act e' t <;> rfl

/-- An idle core with nothing outstanding, as `busy_eq_false_iff` gives it, written with these fields. -/
theorem eq_of_not_busy {s : State} (h : busy s = false) {x : ExState} (hx : s.exState = x) :
    { s with exState := x, pend := .none, txn := none } = s := by
  obtain ⟨hp, ht, -⟩ := (busy_eq_false_iff s).mp h
  rw [← hp, ← ht, ← hx]

/-! ### The stretches of an exchange -/

theorem act_send {s : State} (hr : s.cfg.role = .master) (hx : s.exState = .idle) (hb : busy s = false) :
    act (.hostWrite 0x00#5 0x01#8) s = .next (accept .send s) :=
  congrArg Host.Outcome.next (underRole_admitCmd hr hx hb .send)

theorem act_complete {s : State} (hr : s.cfg.role = .slave) (hx : s.exState = .responsePending) (hb : busy s = false) :
    act (.hostWrite 0x00#5 0x03#8) s = .next (accept .complete s) :=
  congrArg Host.Outcome.next (underRole_admitCmd hr hx hb .complete)

/-- SEND and its start step, of a valid frame (R108, R120). -/
theorem actAll_send_valid {s : State} (hr : s.cfg.role = .master) (hx : s.exState = .idle) (hb : busy s = false)
    (hv : validateMaster s = none) :
    actAll [.hostWrite 0x00#5 0x01#8, .engine] s =
      .next (issue (headerRequest s) { accept .send s with pend := .none, exState := .headerSent }) := by
  have valid : validateMaster (accept .send s) = none := (validateMaster_congr rfl rfl rfl rfl).trans hv
  rw [actAll_pair (act_send hr hx hb), act_engine_of_send (s := accept .send s) hx rfl, sendStart_of_valid valid]
  rfl

/-- SEND and its start step, of a frame that fails validation (R108, R120). -/
theorem actAll_send_invalid {s : State} {code : ErrCode} (hr : s.cfg.role = .master) (hx : s.exState = .idle)
    (hb : busy s = false) (hv : validateMaster s = some code) :
    actAll [.hostWrite 0x00#5 0x01#8, .engine] s = .next (fail code { accept .send s with pend := .none }) := by
  have invalid : validateMaster (accept .send s) = some code := (validateMaster_congr rfl rfl rfl rfl).trans hv
  rw [actAll_pair (act_send hr hx hb), act_engine_of_send (s := accept .send s) hx rfl, sendStart_of_invalid invalid]

/-- The header write answered `Ok`, and the dispatch of a transmit (R121 to R123). -/
theorem actAll_headerOk_transmit {s : State} {b : List Byte} (hx : s.exState = .headerSent)
    (ht : s.txn = some (.write .header b)) (hd : direction s = .transmit) :
    actAll [.answer .ok, .engine] s = .next (issue (responseRequest (frameIdent s) s) s) := by
  have answered : act (.answer .ok) s = .next { s with txn := none } :=
    act_answer_of_headerWrite (w := .ok) hx ht rfl
  rw [actAll_pair answered, act_engine_of_headerSent_transmit (s := { s with txn := none }) hx rfl hd]
  rfl

/-- The response write answered `Ok`, and the terminal step (R115, R124, R145). -/
theorem actAll_responseOk {s : State} {d : List Byte} {k : Byte}
    (hx : s.exState = .headerSent ∨ s.exState = .responsePending) (ht : s.txn = some (.write .response (d ++ [k]))) :
    actAll [.answer .ok, .engine] s =
      .next { s with txn := none, frameCksum := k, exState := .idle, outcome := .completed, errCode := .none } := by
  have answered := act_answer_of_responseWrite hx ht (a := .ok) rfl
  rw [responseWritten_ok] at answered
  rw [actAll_pair answered]
  exact theTerminalStepReturnsToIdle _ (.inl rfl)

/-- Settles O34: the four stretches of a transmit, one after the other, end in the state the SEND found but for RESULT,
REJ_CAUSE and FRAME_CKSUM. -/
theorem aMasterTransmitRunsToCompleted : Obligations.AMasterTransmitRunsToCompleted := by
  intro s hr hx hb hv hd
  refine ⟨_, _, actAll_send_valid hr hx hb hv, rfl, actAll_headerOk_transmit rfl rfl hd, rfl, ?_⟩
  rw [actAll_responseOk (.inl rfl) rfl]
  conv_rhs => rw [← eq_of_not_busy hb hx]
  rfl

/-- Settles O35: the failed start step leaves no request, and the terminal step ends in IDLE. -/
theorem anInvalidSendIssuesNoRequest : Obligations.AnInvalidSendIssuesNoRequest := by
  intro s code hr hx hb hv
  refine ⟨_, actAll_send_invalid hr hx hb hv, rfl, rfl, ?_⟩
  rw [theTerminalStepReturnsToIdle _ (.inr rfl)]
  conv_rhs => rw [← eq_of_not_busy hb hx]
  rfl

/-- COMPLETE and its start step, of a valid receive frame (R108, R142, R146). -/
theorem actAll_complete_receive {s : State} {len : Nibble} (hr : s.cfg.role = .slave)
    (hx : s.exState = .responsePending) (hb : busy s = false) (hv : validateSlave s = none)
    (hd : direction s = .receive len) :
    actAll [.hostWrite 0x00#5 0x03#8, .engine] s =
      .next (issue (responseRead len) { accept .complete s with pend := .none }) := by
  have valid : validateSlave (accept .complete s) = none := (validateSlave_congr rfl rfl rfl).trans hv
  have receives : direction (accept .complete s) = .receive len := (direction_congr rfl rfl rfl).trans hd
  rw [actAll_pair (act_complete hr hx hb), act_engine_of_complete (s := accept .complete s) hx rfl,
    completeStart_of_receive valid receives]

/-- A slave's response read answered with bytes that verify, and the terminal step (R115, R127, R146). -/
theorem actAll_responseRead_match {s : State} {d : List Byte} {k : Byte} (hx : s.exState = .responsePending)
    (ht : s.txn = some (.read (d.length + 1))) (hk : k = frameCksum s.cfg (hdrIdent s) s.variant d) :
    actAll [.answer (.bytes (d ++ [k])), .engine] s = .next
      { s with
        txn := none, data := scatter d s.data, dataCount := BitVec.ofNat 4 d.length, frameCksum := k
        exState := .idle, outcome := .completed, errCode := .none } := by
  have answered := act_answer_of_responseRead ht (.inr ⟨hx, rfl⟩)
    (readResult_of_length_eq (r := d ++ [k]) (by simp))
  rw [responseReadAnswered_of_match (s := { s with txn := none }) hk, keepResponse_append_byte] at answered
  rw [actAll_pair answered]
  exact theTerminalStepReturnsToIdle _ (.inl rfl)

/-- Settles O45: the master's run writes its payload and checksum, and those are the bytes and the checksum that the
slave's run asks for: same identifier, variant and identifier form. -/
theorem whatAMasterSendsASlaveReceives : Obligations.WhatAMasterSendsASlaveReceives := by
  intro m sl hmr hmx hmb hmv hmd hsr hsx hsb hsv hsd hid hvar hform
  have h8 : m.dataCount.toNat ≤ 8 := dataCount_le_of_validateSlave (validateSlave_of_validateMaster m hmv)
  have hlen : (payload m).length = m.dataCount.toNat := (payload_length m).trans (Nat.min_eq_left h8)
  have hk : frameCksum m.cfg (frameIdent m) m.variant (payload m) =
      frameCksum sl.cfg (hdrIdent sl) sl.variant (payload m) := by
    rw [hid, hvar]
    exact frameCksum_congr hform.symm _ _ _
  have header := actAll_send_valid hmr hmx hmb hmv
  have start := actAll_complete_receive hsr hsx hsb hsv hsd
  refine ⟨_, responseBytes (frameIdent m) m, _,
    (actAll_append _ _ _ _ header).trans (actAll_headerOk_transmit rfl rfl hmd), rfl,
    (actAll_append _ _ _ _ start).trans (actAll_responseRead_match hsx ?read hk), rfl, ?idle, rfl, ?payload,
    responseBytes_getLast? _ m⟩
  case read => rw [hlen]; rfl
  case idle => exact (busy_eq_false_iff _).mpr ⟨rfl, rfl, by simp, by simp, by simp⟩
  case payload => exact payload_of_scatter (hlen ▸ h8) rfl rfl

/-! ### The hunt (R134 to R136) -/

/-- A hunt with no read outstanding and no sync seen. -/
structure Hunting (s : State) : Prop where
  exState : s.exState = .awaitHeader
  txn : s.txn = none
  noSync : s.syncSeen = false

/-- The poll of each byte and its answer, one byte after the other. -/
def pollBytes (bytes : List Byte) : List Event := bytes.flatMap fun b => [.engine, .answer (.bytes [b])]

theorem pollBytes_append (xs ys : List Byte) : pollBytes (xs ++ ys) = pollBytes xs ++ pollBytes ys :=
  List.flatMap_append

theorem actAll_poll {s : State} (hx : s.exState = .awaitHeader) (ht : s.txn = none) (b : Byte) :
    actAll (pollBytes [b]) s = .next (huntByte b s) := by
  have polled : act .engine s = .next (issue (.read 1) s) := act_engine_of_awaitHeader hx ht
  have cleared : { issue (.read 1) s with txn := none } = s := by rw [← ht]; rfl
  have taken := act_answer_byte_of_headerPoll (s := issue (.read 1) s) hx rfl b
  rw [cleared] at taken
  exact (actAll_pair polled).trans taken

/-- A byte that is no sync leaves the hunt as it is. -/
theorem actAll_poll_noise {s : State} (h : Hunting s) (noise : List Byte) (hn : 0x55#8 ∉ noise) :
    actAll (pollBytes noise) s = .next s := by
  induction noise with
  | nil => rfl
  | cons b bs ih =>
    obtain ⟨hb, hbs⟩ := List.ne_and_not_mem_of_not_mem_cons hn
    have skipped : huntByte b s = s := by
      have noSync : (b == syncByte) = s.syncSeen := by rw [h.noSync]; exact beq_false_of_ne hb.symm
      rw [huntByte_of_no_sync h.noSync, noSync]
    have polled := actAll_poll h.exState h.txn b
    rw [skipped] at polled
    exact (actAll_append _ (pollBytes bs) s s polled).trans (ih hbs)

/-- After a sync byte the next byte is judged by its parity. -/
theorem actAll_poll_sync {s : State} (h : Hunting s) (b : Byte) :
    actAll (pollBytes [0x55#8, b]) s = .next (huntByte b { s with syncSeen := true }) := by
  have polled : actAll (pollBytes [0x55#8]) s = .next { s with syncSeen := true } := by
    rw [actAll_poll h.exState h.txn, huntByte_of_no_sync h.noSync]
    rfl
  have second := actAll_poll (s := { s with syncSeen := true }) h.exState h.txn b
  exact (actAll_append _ (pollBytes [b]) s _ polled).trans second

/-- A sync byte followed by a byte of wrong parity leaves the hunt as it was (R136). -/
theorem actAll_poll_failedSync {s : State} (h : Hunting s) {b : Byte} (hb : pidOk b = false) :
    actAll (pollBytes [0x55#8, b]) s = .next s := by
  rw [actAll_poll_sync h, huntByte_of_sync_not_pidOk (s := { s with syncSeen := true }) rfl hb, ← h.noSync]

/-- The bytes of the syncs that fail, each after its noise. -/
def failedSyncs (skipped : List (List Byte × Byte)) : List Byte := skipped.flatMap fun x => x.1 ++ [0x55#8, x.2]

theorem actAll_poll_failedSyncs {s : State} (h : Hunting s) (skipped : List (List Byte × Byte))
    (hs : ∀ x ∈ skipped, 0x55#8 ∉ x.1 ∧ pidOk x.2 = false) : actAll (pollBytes (failedSyncs skipped)) s = .next s := by
  induction skipped with
  | nil => rfl
  | cons x xs ih =>
    obtain ⟨hnoise, hparity⟩ := hs x List.mem_cons_self
    have split : failedSyncs (x :: xs) = x.1 ++ ([0x55#8, x.2] ++ failedSyncs xs) := by simp [failedSyncs]
    rw [split, pollBytes_append, actAll_append _ _ _ _ (actAll_poll_noise h x.1 hnoise), pollBytes_append,
      actAll_append _ _ _ _ (actAll_poll_failedSync h hparity)]
    exact ih fun y hy => hs y (.tail x hy)

/-- Settles O39: failed syncs and noise leave the hunt as it is, by induction, so the sync that is followed by a PID
finds it as it began. -/
theorem theHuntTakesTheFirstHeader : Obligations.TheHuntTakesTheFirstHeader := by
  intro skipped noise p s hs hn hp hx ht hsync
  have h : Hunting s := ⟨hx, ht, hsync⟩
  change actAll (pollBytes (failedSyncs skipped ++ noise ++ [0x55#8, p])) s = _
  rw [List.append_assoc, pollBytes_append, actAll_append _ _ _ _ (actAll_poll_failedSyncs h skipped hs),
    pollBytes_append, actAll_append _ _ _ _ (actAll_poll_noise h noise hn), actAll_poll_sync h,
    huntByte_of_sync_pidOk (s := { s with syncSeen := true }) rfl hp, headerFound, idOf_eq_extract, ← hsync]

end Sys2Proof.Machine
end

/-! # Proofs: every SEND that is answered ends

R130 (d). `sendRank` counts the engine and answer steps that a master exchange still needs. Between those steps the
exchange stands still (`act_keeps_control`), fairness and the Transport bring the next one, and each one lowers the rank
or ends the exchange. -/

section
namespace Sys2Proof.Machine

/-! ### A master exchange in progress, and the steps that move it -/

/-- A master exchange that still needs a step. -/
structure Sending (s : State) : Prop where
  inv : ExchangeInv s
  master : s.cfg.role = .master
  active : sendRank s ≠ 0

/-- What R130 (d) promises of some state of the run. -/
def SendEnded (s : State) : Prop :=
  s.exState = .idle ∧ busy s = false ∧ (s.outcome = .completed ∨ s.outcome = .failed)

/-- The event is an enabled step of the engine or of the Transport. -/
def Moves (e : Event) (s : State) : Prop := enabled e s = true ∧ (e = .engine ∨ ∃ a, e = .answer a)

theorem ExchangeInv.not_slave_of_master {s : State} (h : ExchangeInv s) (hr : s.cfg.role = .master) :
    s.pend ≠ .wait ∧ s.pend ≠ .complete ∧ s.exState ≠ .awaitHeader ∧ s.exState ≠ .responsePending := by
  simpa [hr, not_or] using mt h.slaveRole

theorem sendRank_congr {s t : State} (h : SameControl s t) : sendRank t = sendRank s := by
  obtain ⟨hx, hp, ht, -⟩ := h
  rw [sendRank, sendRank, hx, hp, ht]

theorem Sending.pend_eq_send_of_idle {s : State} (h : Sending s) (hx : s.exState = .idle) : s.pend = .send := by
  by_contra hp
  exact h.active (by simp [sendRank, hp, hx])

theorem Sending.hostLockedOut {s : State} (h : Sending s) : HostLockedOut s := by
  obtain ⟨notWait, -, notHunt, notPending⟩ := h.inv.not_slave_of_master h.master
  refine ⟨?_, notWait, notHunt⟩
  by_cases hx : s.exState = .idle
  · exact .inl (busy_of_pend s (by simp [h.pend_eq_send_of_idle hx]))
  · exact .inr ⟨hx, notPending⟩

/-- An event that does not move the exchange leaves it where it is. -/
theorem Sending.stands {e : Event} {s t : State} (h : Sending s) (hr : e ≠ .reset) (hm : ¬ Moves e s)
    (ha : act e s = .next t) : Sending t ∧ SameControl s t := by
  have same : SameControl s t := act_keeps_control h.hostLockedOut hr
    (fun he => Bool.eq_false_iff.mpr fun hen => hm ⟨he ▸ hen, .inl he⟩)
    (fun a he => Bool.eq_false_iff.mpr fun hen => hm ⟨hen, .inr ⟨a, he⟩⟩) ha
  exact ⟨⟨h.inv.of_act ha, (congrArg Config.role (act_keeps_cfg ha)).trans h.master, by
    rw [sendRank_congr same]; exact h.active⟩, same⟩

/-- While a SEND is in progress the engine has a step or a request is outstanding. -/
theorem Sending.engine_or_request {s : State} (h : Sending s) : enabled .engine s = true ∨ s.txn ≠ none := by
  obtain ⟨-, -, notHunt, notPending⟩ := h.inv.not_slave_of_master h.master
  rw [enabled_engine_iff]
  cases hx : s.exState with
  | idle => exact .inl (.inl ⟨rfl, .inl (h.pend_eq_send_of_idle hx)⟩)
  | headerSent =>
    by_cases ht : s.txn = none
    · exact .inl (.inr (.inr (.inl ⟨.inl rfl, ht⟩)))
    · exact .inr ht
  | awaitResponse => exact .inr (by simp [(h.inv.masterReads hx).2])
  | awaitHeader => exact absurd hx notHunt
  | responsePending => exact absurd hx notPending
  | complete | error => exact .inl (by simp)

/-! ### The rank goes down -/

/-- A request outstanding has its answer and the terminal step to come. -/
theorem Sending.one_lt_sendRank {s : State} (h : Sending s) (ht : s.txn ≠ none) : 1 < sendRank s := by
  obtain ⟨-, -, notHunt, notPending⟩ := h.inv.not_slave_of_master h.master
  have hp := h.inv.listed.pend_eq_none_of_txn ht
  obtain ⟨q, hq⟩ := Option.ne_none_iff_exists'.mp ht
  have fits := h.inv.listed.requestFits hq
  match q with
  | .write .header b => simp [sendRank, hp, hq, show s.exState = _ from fits]
  | .write .response b => simp [sendRank, hp, hq, fits.resolve_right notPending]
  | .read n =>
    obtain hx | ⟨hx, -⟩ | hx := fits
    · simp [sendRank, hp, hx]
    · exact absurd hx notHunt
    · exact absurd hx notPending

/-- A step that moves the exchange ends it or leaves fewer steps. -/
theorem Sending.moves_on {e : Event} {s t : State} (h : Sending s) (hm : Moves e s) (ha : act e s = .next t) :
    SendEnded t ∨ (Sending t ∧ sendRank t < sendRank s) := by
  obtain ⟨hen, he⟩ := hm
  obtain ⟨notWait, notComplete, notHunt, notPending⟩ := h.inv.not_slave_of_master h.master
  have fewer (ht : sendRank t ≠ 0 ∧ sendRank t < sendRank s) : SendEnded t ∨ (Sending t ∧ sendRank t < sendRank s) :=
    .inr ⟨⟨h.inv.of_act ha, (congrArg Config.role (act_keeps_cfg ha)).trans h.master, ht.1⟩, ht.2⟩
  have last (htxn : s.txn ≠ none) (hp : t.pend = s.pend) (hx : sendRank { t with pend := .none } = 1) :
      SendEnded t ∨ (Sending t ∧ sendRank t < sendRank s) := by
    have one : sendRank t = 1 := by rw [← hx, ← h.inv.listed.pend_eq_none_of_txn htxn, ← hp]
    exact fewer ⟨by omega, one ▸ h.one_lt_sendRank htxn⟩
  cases act_cases e s t ha with
  | write lines hh _ => obtain rfl | ⟨a, rfl⟩ := he <;> cases hh
  | read b lines hh _ => obtain rfl | ⟨a, rfl⟩ := he <;> cases hh
  | idle hn _ => simp [hen] at hn
  | sendFail _ _ hp c _ ht => subst ht; exact fewer (by simp [sendRank, hp])
  | sendOk _ _ hp _ ht => subst ht; exact fewer (by simp [sendRank, hp, headerRequest])
  | transmit _ hx htxn _ ht =>
    subst ht; exact fewer (by simp [sendRank, h.inv.listed.pend_eq_none hx rfl, hx, htxn, responseRequest])
  | receive _ hx htxn len _ ht => subst ht; exact fewer (by simp [sendRank, h.inv.listed.pend_eq_none hx rfl, hx, htxn])
  | silent _ hx htxn _ ht => subst ht; exact fewer (by simp [sendRank, h.inv.listed.pend_eq_none hx rfl, hx, htxn])
  | terminal _ hx ht =>
    subst ht
    obtain ⟨hp, htxn⟩ := h.inv.listed.terminal hx
    exact .inl ⟨rfl, (busy_eq_false_iff _).mpr ⟨hp, htxn, by simp, by simp, by simp⟩,
      hx.imp h.inv.outcomeComplete h.inv.outcomeError⟩
  | headerOk _ b hx htxn ht => subst ht; exact fewer (by simp [sendRank, h.inv.listed.pend_eq_none hx rfl, hx, htxn])
  | ioError a _ _ htxn _ ht => subst ht; exact last htxn rfl rfl
  | sent _ b _ htxn ht | mismatch r id _ _ htxn _ ht | kept d k id _ _ htxn _ ht =>
    subst ht; exact last (by simp [htxn]) rfl rfl
  | waitStart _ _ hp _ => exact absurd hp notWait
  | completeFail _ _ hp _ _ _ | completeSilent _ _ hp _ _ _ | completeTransmit _ _ hp _ _ _
  | completeReceive _ _ hp _ _ _ _ => exact absurd hp notComplete
  | poll _ hx _ _ | hunted _ _ hx _ _ _ | parityWrong _ _ hx _ _ _ _ | found _ _ hx _ _ _ _ | deadline _ hx _ =>
    exact absurd hx notHunt
  | reset hreset _ => obtain rfl | ⟨a, rfl⟩ := he <;> cases hreset

/-! ### Fairness brings the next step -/

section
variable {ev : Nat → Event} {r : Nat → State} (run : EventRun ev r) (noReset : ∀ n, ev n ≠ .reset)
include run noReset

theorem Sending.stands_until_move {n : Nat} (h : Sending (r n)) (k : Nat)
    (still : ∀ j, j < k → ¬ Moves (ev (n + j)) (r (n + j))) : Sending (r (n + k)) ∧ SameControl (r n) (r (n + k)) := by
  induction k with
  | zero => exact ⟨h, rfl, rfl, rfl, rfl, rfl⟩
  | succ k ih =>
    obtain ⟨hk, kx, kp, kt, ko, ke⟩ := ih fun j hj => still j (by omega)
    obtain ⟨hk', x, p, t, o, e⟩ := hk.stands (noReset _) (still k (by omega)) (run (n + k))
    exact ⟨hk', x.trans kx, p.trans kp, t.trans kt, o.trans ko, e.trans ke⟩

/-- The exchange cannot stand for ever: the engine or the Transport would starve. -/
theorem Sending.exists_move (fair : EngineFair ev r) (answers : TransportAnswers ev r) {n : Nat}
    (h : Sending (r n)) : ∃ k, Moves (ev (n + k)) (r (n + k)) := by
  by_contra never
  have stands (m : Nat) (hm : n ≤ m) : SameControl (r n) (r m) := by
    obtain ⟨k, rfl⟩ := Nat.exists_eq_add_of_le hm
    exact (h.stands_until_move run noReset k fun j _ hj => never ⟨j, hj⟩).2
  have starved (m : Nat) (hm : n ≤ m) : ¬ Moves (ev m) (r m) := by
    obtain ⟨k, rfl⟩ := Nat.exists_eq_add_of_le hm
    exact fun hk => never ⟨k, hk⟩
  obtain hen | ht := h.engine_or_request
  · have enabledOn (m : Nat) (hm : n ≤ m) : enabled .engine (r m) = true := by
      obtain ⟨hx, hp, ht, -⟩ := stands m hm
      rw [enabled_engine_iff] at hen ⊢
      rwa [hx, hp, ht]
    obtain ⟨m, hm, he⟩ := fair n enabledOn
    exact starved m hm ⟨he ▸ enabledOn m hm, .inl he⟩
  · have outstanding (m : Nat) (hm : n ≤ m) : (r m).txn ≠ none := by
      obtain ⟨-, -, htxn, -⟩ := stands m hm
      rwa [htxn]
    obtain ⟨m, a, hm, he, hen⟩ := answers n outstanding
    exact starved m hm ⟨he ▸ hen, .inr ⟨a, he⟩⟩

/-- The next moving step ends the exchange or leaves fewer steps. -/
theorem Sending.progress (fair : EngineFair ev r) (answers : TransportAnswers ev r) {n : Nat} (h : Sending (r n)) :
    ∃ m, SendEnded (r m) ∨ (Sending (r m) ∧ sendRank (r m) < sendRank (r n)) := by
  classical
  have moves := h.exists_move run noReset fair answers
  obtain ⟨there, same⟩ := h.stands_until_move run noReset (Nat.find moves) fun j => Nat.find_min moves
  refine ⟨n + Nat.find moves + 1, ?_⟩
  rw [← sendRank_congr same]
  exact there.moves_on (Nat.find_spec moves) (run _)

theorem Sending.ends (fair : EngineFair ev r) (answers : TransportAnswers ev r) (n : Nat) (h : Sending (r n)) :
    ∃ m, SendEnded (r m) := by
  induction hk : sendRank (r n) using Nat.strong_induction_on generalizing n with
  | _ k ih =>
    obtain ⟨m, ended | ⟨hm, lower⟩⟩ := h.progress run noReset fair answers
    · exact ⟨m, ended⟩
    · exact ih _ (hk ▸ lower) m hm rfl

end

/-- Settles O36, by strong induction on `sendRank`: each moving step comes and lowers it or ends the exchange. -/
theorem everySendThatIsAnsweredEnds : Obligations.EverySendThatIsAnsweredEnds := by
  intro ev r run fair answers noReset inv hp
  have start : Sending (r 0) := ⟨inv, inv.masterRole (.inl hp), by simp [sendRank, hp]⟩
  exact start.ends run noReset fair answers 0

end Sys2Proof.Machine
end
